-- ==== Sys2Proof/Word.lean ====
section
/-! DEFINITION. The word types of the machine: 32-bit words, 16-bit halfwords, 8-bit bytes (00_scope.md R5,
20_memory.md R100) and 4-bit general-register numbers (10_state.md R30). -/

namespace Sys2Proof

/-- A byte of memory, the smallest addressable unit (20_memory.md R100). -/
abbrev Byte := BitVec 8

/-- A halfword, the unit of instruction fetch (20_memory.md R102). -/
abbrev Half := BitVec 16

/-- A word: a register, an address, a PC (00_scope.md R5). -/
abbrev Word := BitVec 32

/-- A general-register number 0 to 15 (10_state.md R30). -/
abbrev Reg := BitVec 4

/-- R14, the stack pointer (10_state.md R32). -/
def sp : Reg := 14

/-- R15, the link register (10_state.md R32). -/
def lr : Reg := 15

/-- The register a 3-bit field names, r0 to r7 (30_encoding.md R179). -/
def lowReg (n : BitVec 3) : Reg := n.setWidth 4

end Sys2Proof
end

