-- ==== Sys2Proof/Config.lean ====
section
/-! DEFINITION. What an implementation fixes: the parameters of 00_scope.md R5 to R10 and 92_eei_decisions.md section 2, as
one record of plain data that State carries and no step changes, and the free values of the model. -/

namespace Sys2Proof

/-- Byte order of data, the pin pad_sysio_bigend_b at power-on (00_scope.md R6). -/
inductive Endian
  | little
  | big
deriving DecidableEq, Repr

/-- The kinds of access the MPU and the bus tell apart (20_memory.md R110, R122). -/
inductive AccessKind
  | read
  | write
  | fetch
deriving DecidableEq, Repr

/-- The addresses from `first` to `last`, both included. -/
structure AddrRange where
  first : Nat
  last : Nat
deriving DecidableEq, Repr

/-- The accesses of one kind that the bus answers with an error (20_memory.md R110): those of a size in `sizes`, in bytes,
that touch `range`. Every access the machine makes is aligned to its size, so one entry for each size and address gives any
predicate of address, size and kind (log 17). -/
structure BusErrorRange where
  kind : AccessKind
  sizes : List Nat
  range : AddrRange
deriving DecidableEq, Repr

/-- The implementation parameters (92_eei_decisions.md section 2). HAS_VBR is false only (D5), so it is no field; the bit
positions D1 to D3 stand in the register images of Machine/ControlRegs.lean. -/
structure Config where
  /-- ENDIAN (00_scope.md R6). -/
  endian : Endian
  /-- BE_V2 (10_state.md R60). -/
  beV2 : Bool
  /-- SCK (10_state.md R61). -/
  sck : BitVec 3
  /-- MPU_REGIONS, 0 to 8 (00_scope.md R7). -/
  mpuRegions : Fin 9
  /-- HAS_NEST_INT (00_scope.md R9). -/
  hasNestInt : Bool
  /-- CPUID_VALUE (10_state.md R58). -/
  cpuid : Word
  /-- SRST_MAGIC (10_state.md R74). -/
  srstMagic : Half
  /-- GCR_GSR_PRESENT (10_state.md R57). -/
  gcrGsrPresent : Bool
  /-- JSR16_ALT_ENCODING (30_encoding.md R190). -/
  jsr16Alt : Bool
  /-- IFETCH_PREFETCH_HALFWORDS, 0 to 4 (20_memory.md R133). -/
  ifetchPrefetch : Fin 5
  /-- TCIP_RANGE (20_memory.md R116). -/
  tcip : List AddrRange
  /-- The platform's BusError predicate (20_memory.md R110). -/
  busErrors : List BusErrorRange
deriving DecidableEq, Repr

/-- The default of every parameter (92_eei_decisions.md section 2); the CPUIDR value is the test runs' arbitrary one
(DESIGN CHOICE, logs 9 and 10). -/
def Config.standard : Config where
  endian := .little
  beV2 := false
  sck := 0
  mpuRegions := 8
  hasNestInt := true
  cpuid := 0x04880003
  srstMagic := 0xABCD
  gcrGsrPresent := false
  jsr16Alt := false
  ifetchPrefetch := 0
  tcip := []
  busErrors := []

/-- ENDIAN = big with BE_V2 = 0 is not defined by the source; a model refuses it (20_memory.md R102). -/
def Config.supported (c : Config) : Bool :=
  match c.endian with
  | .little => true
  | .big => c.beV2

/-- The free values: what a register that 10_state.md R90 calls unspecified holds after a reset during a run. No body:
nothing can be proved of it (log 18). -/
opaque Config.freeWord : Nat → Word

end Sys2Proof
end

