-- ==== Sys2Proof/Machine/Bytes.lean ====
section
/-! DEFINITION. Byte order: how a halfword or a word is made of bytes at ascending addresses, and taken apart
(20_memory.md R101, R102). -/

namespace Sys2Proof

/-- The halfword whose bytes stand at A and A+1 (20_memory.md R101). -/
def joinHalf (e : Endian) (b0 b1 : Byte) : Half :=
  match e with
  | .little => b1 ++ b0
  | .big => b0 ++ b1

/-- The word whose bytes stand at A to A+3 (20_memory.md R101). -/
def joinWord (e : Endian) (b0 b1 b2 b3 : Byte) : Word :=
  match e with
  | .little => b3 ++ b2 ++ b1 ++ b0
  | .big => b0 ++ b1 ++ b2 ++ b3

/-- The bytes of a halfword at ascending addresses (20_memory.md R101). -/
def halfBytes (e : Endian) (h : Half) : List Byte :=
  match e with
  | .little => [h.extractLsb' 0 8, h.extractLsb' 8 8]
  | .big => [h.extractLsb' 8 8, h.extractLsb' 0 8]

/-- The bytes of a word at ascending addresses (20_memory.md R101). -/
def wordBytes (e : Endian) (w : Word) : List Byte :=
  match e with
  | .little => [w.extractLsb' 0 8, w.extractLsb' 8 8, w.extractLsb' 16 8, w.extractLsb' 24 8]
  | .big => [w.extractLsb' 24 8, w.extractLsb' 16 8, w.extractLsb' 8 8, w.extractLsb' 0 8]

end Sys2Proof
end

