-- ==== Sys2Proof/Syntax.lean ====
section
/-! DEFINITION. The instructions of the CK801: one constructor per row of spec/opcode_table.json, in the table's order,
each operand a bit field of exactly the width its encoding gives it (30_encoding.md R180, R188). A general-register field
of a 32-bit word is 4 bits: its fifth bit is part of the match (30_encoding.md R163). -/

namespace Sys2Proof

/-- The CK801 instruction set. The rule after each mnemonic gives its semantics. -/
inductive Instr
  /-- bkpt16 (44_privileged_special.md R358). -/
  | bkpt16
  /-- lrw16 (41_compare_move_bit_ext_mult.md R262). -/
  | lrw16 (rz : BitVec 3) (imm1 : BitVec 1) (imm2 : BitVec 2) (imm5 : BitVec 5)
  /-- br16 (42_branch_jump.md R280). -/
  | br16 (offset : BitVec 10)
  /-- bt16 (42_branch_jump.md R281). -/
  | bt16 (offset : BitVec 10)
  /-- bf16 (42_branch_jump.md R282). -/
  | bf16 (offset : BitVec 10)
  /-- addi16 sp,sp,imm (40_arith_logic_shift.md R206). -/
  | addi16SpSp (imm2 : BitVec 2) (imm5 : BitVec 5)
  /-- subi16 sp,sp,imm (40_arith_logic_shift.md R212). -/
  | subi16SpSp (imm2 : BitVec 2) (imm5 : BitVec 5)
  /-- nie16 (44_privileged_special.md R348). -/
  | nie16
  /-- nir16 (44_privileged_special.md R349). -/
  | nir16
  /-- ipush16 (43_load_store.md R324). -/
  | ipush16
  /-- ipop16 (43_load_store.md R325). -/
  | ipop16
  /-- pop16 (list1 0 to 7) (43_load_store.md R322). -/
  | pop16 (r15 : BitVec 1) (list1 : BitVec 3)
  /-- pop16 (list1 8) (43_load_store.md R322). -/
  | pop16List8 (r15 : BitVec 1)
  /-- push16 (list1 0 to 7) (43_load_store.md R321). -/
  | push16 (r15 : BitVec 1) (list1 : BitVec 3)
  /-- push16 (list1 8) (43_load_store.md R321). -/
  | push16List8 (r15 : BitVec 1)
  /-- addi16 rz,sp,imm (40_arith_logic_shift.md R205). -/
  | addi16RzSp (rz : BitVec 3) (imm8 : BitVec 8)
  /-- addi16 rz,oimm8 (40_arith_logic_shift.md R203). -/
  | addi16Oimm8 (rz : BitVec 3) (imm8 : BitVec 8)
  /-- subi16 rz,oimm8 (40_arith_logic_shift.md R210). -/
  | subi16Oimm8 (rz : BitVec 3) (imm8 : BitVec 8)
  /-- movi16 (41_compare_move_bit_ext_mult.md R251). -/
  | movi16 (rz : BitVec 3) (imm8 : BitVec 8)
  /-- cmphsi16 (41_compare_move_bit_ext_mult.md R241). -/
  | cmphsi16 (rx : BitVec 3) (imm5 : BitVec 5)
  /-- cmplti16 (41_compare_move_bit_ext_mult.md R243). -/
  | cmplti16 (rx : BitVec 3) (imm5 : BitVec 5)
  /-- cmpnei16 (41_compare_move_bit_ext_mult.md R245). -/
  | cmpnei16 (rx : BitVec 3) (imm5 : BitVec 5)
  /-- bclri16 (41_compare_move_bit_ext_mult.md R254). -/
  | bclri16 (rz : BitVec 3) (imm5 : BitVec 5)
  /-- bseti16 (41_compare_move_bit_ext_mult.md R255). -/
  | bseti16 (rz : BitVec 3) (imm5 : BitVec 5)
  /-- btsti16 (41_compare_move_bit_ext_mult.md R256). -/
  | btsti16 (rx : BitVec 3) (imm5 : BitVec 5)
  /-- lsli16 (40_arith_logic_shift.md R226). -/
  | lsli16 (rz : BitVec 3) (rx : BitVec 3) (imm5 : BitVec 5)
  /-- lsri16 (40_arith_logic_shift.md R228). -/
  | lsri16 (rz : BitVec 3) (rx : BitVec 3) (imm5 : BitVec 5)
  /-- asri16 (40_arith_logic_shift.md R230). -/
  | asri16 (rz : BitVec 3) (rx : BitVec 3) (imm5 : BitVec 5)
  /-- addu16 rz,rx,ry (40_arith_logic_shift.md R201). -/
  | addu16RzRxRy (rz : BitVec 3) (rx : BitVec 3) (ry : BitVec 3)
  /-- subu16 rz,rx,ry (40_arith_logic_shift.md R208). -/
  | subu16RzRxRy (rz : BitVec 3) (rx : BitVec 3) (ry : BitVec 3)
  /-- addi16 rz,rx,oimm3 (40_arith_logic_shift.md R204). -/
  | addi16Oimm3 (rz : BitVec 3) (rx : BitVec 3) (imm3 : BitVec 3)
  /-- subi16 rz,rx,oimm3 (40_arith_logic_shift.md R211). -/
  | subi16Oimm3 (rz : BitVec 3) (rx : BitVec 3) (imm3 : BitVec 3)
  /-- addu16 rz,rx (40_arith_logic_shift.md R200). -/
  | addu16RzRx (rz : BitVec 4) (rx : BitVec 4)
  /-- addc16 (40_arith_logic_shift.md R202). -/
  | addc16 (rz : BitVec 4) (rx : BitVec 4)
  /-- subu16 rz,rx (40_arith_logic_shift.md R207). -/
  | subu16RzRx (rz : BitVec 4) (rx : BitVec 4)
  /-- subc16 (40_arith_logic_shift.md R209). -/
  | subc16 (rz : BitVec 4) (rx : BitVec 4)
  /-- cmphs16 (41_compare_move_bit_ext_mult.md R240). -/
  | cmphs16 (rx : BitVec 4) (ry : BitVec 4)
  /-- cmplt16 (41_compare_move_bit_ext_mult.md R242). -/
  | cmplt16 (rx : BitVec 4) (ry : BitVec 4)
  /-- cmpne16 (41_compare_move_bit_ext_mult.md R244). -/
  | cmpne16 (rx : BitVec 4) (ry : BitVec 4)
  /-- mvcv16 (41_compare_move_bit_ext_mult.md R252). -/
  | mvcv16 (rz : BitVec 4)
  /-- and16 (40_arith_logic_shift.md R215). -/
  | and16 (rz : BitVec 4) (rx : BitVec 4)
  /-- andn16 (40_arith_logic_shift.md R216). -/
  | andn16 (rz : BitVec 4) (rx : BitVec 4)
  /-- tst16 (41_compare_move_bit_ext_mult.md R246). -/
  | tst16 (rx : BitVec 4) (ry : BitVec 4)
  /-- tstnbz16 (41_compare_move_bit_ext_mult.md R247). -/
  | tstnbz16 (rx : BitVec 4)
  /-- or16 (40_arith_logic_shift.md R217). -/
  | or16 (rz : BitVec 4) (rx : BitVec 4)
  /-- xor16 (40_arith_logic_shift.md R218). -/
  | xor16 (rz : BitVec 4) (rx : BitVec 4)
  /-- nor16 (not16) (40_arith_logic_shift.md R219). -/
  | nor16 (rz : BitVec 4) (rx : BitVec 4)
  /-- mov16 (41_compare_move_bit_ext_mult.md R250). -/
  | mov16 (rz : BitVec 4) (rx : BitVec 4)
  /-- lsl16 (40_arith_logic_shift.md R225). -/
  | lsl16 (rz : BitVec 4) (rx : BitVec 4)
  /-- lsr16 (40_arith_logic_shift.md R227). -/
  | lsr16 (rz : BitVec 4) (rx : BitVec 4)
  /-- asr16 (40_arith_logic_shift.md R229). -/
  | asr16 (rz : BitVec 4) (rx : BitVec 4)
  /-- rotl16 (40_arith_logic_shift.md R231). -/
  | rotl16 (rz : BitVec 4) (rx : BitVec 4)
  /-- zextb16 (41_compare_move_bit_ext_mult.md R257). -/
  | zextb16 (rz : BitVec 4) (rx : BitVec 4)
  /-- zexth16 (41_compare_move_bit_ext_mult.md R258). -/
  | zexth16 (rz : BitVec 4) (rx : BitVec 4)
  /-- sextb16 (41_compare_move_bit_ext_mult.md R259). -/
  | sextb16 (rz : BitVec 4) (rx : BitVec 4)
  /-- sexth16 (41_compare_move_bit_ext_mult.md R260). -/
  | sexth16 (rz : BitVec 4) (rx : BitVec 4)
  /-- jmp16 (rts16 = 0x783C) (42_branch_jump.md R285). -/
  | jmp16 (rx : BitVec 4)
  /-- jsr16 (42_branch_jump.md R286). -/
  | jsr16 (rx : BitVec 4)
  /-- mult16 (41_compare_move_bit_ext_mult.md R261). -/
  | mult16 (rz : BitVec 4) (rx : BitVec 4)
  /-- ld16.b (43_load_store.md R300). -/
  | ld16b (rz : BitVec 3) (rx : BitVec 3) (imm5 : BitVec 5)
  /-- ld16.h (43_load_store.md R302). -/
  | ld16h (rz : BitVec 3) (rx : BitVec 3) (imm5 : BitVec 5)
  /-- ld16.w rz,(rx,disp) (43_load_store.md R304). -/
  | ld16w (rz : BitVec 3) (rx : BitVec 3) (imm5 : BitVec 5)
  /-- ld16.w rz,(sp,disp) (43_load_store.md R305). -/
  | ld16wSp (rz : BitVec 3) (imm3 : BitVec 3) (imm5 : BitVec 5)
  /-- st16.b (43_load_store.md R310). -/
  | st16b (rz : BitVec 3) (rx : BitVec 3) (imm5 : BitVec 5)
  /-- st16.h (43_load_store.md R312). -/
  | st16h (rz : BitVec 3) (rx : BitVec 3) (imm5 : BitVec 5)
  /-- st16.w rz,(rx,disp) (43_load_store.md R314). -/
  | st16w (rz : BitVec 3) (rx : BitVec 3) (imm5 : BitVec 5)
  /-- st16.w rz,(sp,disp) (43_load_store.md R315). -/
  | st16wSp (rz : BitVec 3) (imm3 : BitVec 3) (imm5 : BitVec 5)
  /-- sync32 (44_privileged_special.md R356). -/
  | sync32
  /-- idly32 (44_privileged_special.md R352). -/
  | idly32 (imm5 : BitVec 5)
  /-- trap32 (44_privileged_special.md R357). -/
  | trap32 (n : BitVec 2)
  /-- rte32 (44_privileged_special.md R347). -/
  | rte32
  /-- stop32 (44_privileged_special.md R355). -/
  | stop32
  /-- wait32 (44_privileged_special.md R353). -/
  | wait32
  /-- doze32 (44_privileged_special.md R354). -/
  | doze32
  /-- mfcr32 (44_privileged_special.md R343). -/
  | mfcr32 (rz : BitVec 4) (crx : BitVec 5) (sel : BitVec 5)
  /-- mtcr32 (44_privileged_special.md R344). -/
  | mtcr32 (rx : BitVec 4) (crz : BitVec 5) (sel : BitVec 5)
  /-- psrclr32 (44_privileged_special.md R345). -/
  | psrclr32 (imm5 : BitVec 5)
  /-- psrset32 (44_privileged_special.md R346). -/
  | psrset32 (imm5 : BitVec 5)
  /-- ld32.b (43_load_store.md R301). -/
  | ld32b (rz : BitVec 4) (rx : BitVec 4) (imm12 : BitVec 12)
  /-- ld32.h (43_load_store.md R303). -/
  | ld32h (rz : BitVec 4) (rx : BitVec 4) (imm12 : BitVec 12)
  /-- ld32.w (43_load_store.md R306). -/
  | ld32w (rz : BitVec 4) (rx : BitVec 4) (imm12 : BitVec 12)
  /-- st32.b (43_load_store.md R311). -/
  | st32b (rz : BitVec 4) (rx : BitVec 4) (imm12 : BitVec 12)
  /-- st32.h (43_load_store.md R313). -/
  | st32h (rz : BitVec 4) (rx : BitVec 4) (imm12 : BitVec 12)
  /-- st32.w (43_load_store.md R316). -/
  | st32w (rz : BitVec 4) (rx : BitVec 4) (imm12 : BitVec 12)
  /-- bsr32 (42_branch_jump.md R284). -/
  | bsr32 (offset : BitVec 26)
  /-- br32 (42_branch_jump.md R283). -/
  | br32 (offset : BitVec 16)
  /-- lrw32 (41_compare_move_bit_ext_mult.md R263). -/
  | lrw32 (rz : BitVec 4) (imm16 : BitVec 16)
deriving DecidableEq, Repr

/-- An instruction word: 16 bits, or 32 bits with the first halfword in bits 31:16 (30_encoding.md R150). -/
inductive InstrWord
  | half (h : Half)
  | full (w : Word)
deriving DecidableEq, Repr

end Sys2Proof
end

