-- ==== Sys2Proof/WellFormed.lean ====
section
/-! DEFINITION. Which instruction terms stand for an encodable instruction of a configuration. The operand widths of Syntax
leave two checks: LRW16 is not the all-zero word (30_encoding.md R185), and the four interrupt-nesting instructions exist
only when the hardware has them (30_encoding.md R187). -/

namespace Sys2Proof

/-- The instruction needs HAS_NEST_INT (00_scope.md R9). -/
def Instr.needsNestInt : Instr → Bool
  | .nie16 => true
  | .nir16 => true
  | .ipush16 => true
  | .ipop16 => true
  | _ => false

/-- LRW16 with every field zero is the word of BKPT16 (30_encoding.md R185). -/
def Instr.isZeroLrw16 : Instr → Bool
  | .lrw16 rz imm1 imm2 imm5 => rz == 0 && imm1 == 0 && imm2 == 0 && imm5 == 0
  | _ => false

/-- The term is an instruction of the configuration. -/
def Instr.wellFormed (c : Config) (i : Instr) : Bool :=
  (!i.needsNestInt || c.hasNestInt) && !i.isZeroLrw16

end Sys2Proof
end

