-- ==== Sys2Proof/Decode.lean ====
section
/-! DEFINITION. Decoding by the mask and match rows of the opcode list (30_encoding.md R153, R188), total on any bytes and
rejecting by name, and the encoder written from the same encodings. -/

namespace Sys2Proof

/-- Why no instruction is read. Each of the last three raises the illegal instruction exception (30_encoding.md R186);
safe, since nothing executes. -/
inductive DecodeError
  /-- Fewer bytes than the instruction needs: raised only by the decoder of byte lists, never by a fetch. -/
  | truncated
  /-- A 16-bit word that matches no row (30_encoding.md R186). -/
  | unimplemented16 (h : Half)
  /-- A 32-bit word that matches no row (30_encoding.md R186). -/
  | unimplemented32 (w : Word)
  /-- An interrupt-nesting instruction where the hardware has none (30_encoding.md R187). -/
  | nestingAbsent (h : Half)
deriving DecidableEq, Repr

/-- One row of the opcode list: a word `iw` matches when `iw & mask = pattern`; `build` takes the operand fields. -/
structure Row (n : Nat) where
  mask : BitVec n
  pattern : BitVec n
  build : BitVec n → Instr

/-- The word matches the row (30_encoding.md R153 step 2). -/
def Row.hits {n : Nat} (r : Row n) (w : BitVec n) : Bool := w &&& r.mask == r.pattern

/-- The first row that matches, its fields read (30_encoding.md R153). -/
def lookup {n : Nat} (rows : List (Row n)) (w : BitVec n) : Option Instr :=
  (rows.find? (·.hits w)).map (·.build w)

/-- Bits 15:11 from 00000 to 00010: BKPT16 before LRW16, whose pattern it is carved out of (30_encoding.md R185). -/
def rowsLow : List (Row 16) := [
  ⟨0xFFFF#16, 0x0000#16, fun _ => .bkpt16⟩,
  ⟨0xEC00#16, 0x0000#16, fun w => .lrw16 (w.extractLsb' 5 3) (w.extractLsb' 12 1) (w.extractLsb' 8 2) (w.extractLsb' 0 5)⟩,
  ⟨0xFC00#16, 0x0400#16, fun w => .br16 (w.extractLsb' 0 10)⟩,
  ⟨0xFC00#16, 0x0800#16, fun w => .bt16 (w.extractLsb' 0 10)⟩,
  ⟨0xFC00#16, 0x0C00#16, fun w => .bf16 (w.extractLsb' 0 10)⟩,
  ⟨0xFCE0#16, 0x1400#16, fun w => .addi16SpSp (w.extractLsb' 8 2) (w.extractLsb' 0 5)⟩,
  ⟨0xFCE0#16, 0x1420#16, fun w => .subi16SpSp (w.extractLsb' 8 2) (w.extractLsb' 0 5)⟩,
  ⟨0xFFFF#16, 0x1460#16, fun _ => .nie16⟩,
  ⟨0xFFFF#16, 0x1461#16, fun _ => .nir16⟩,
  ⟨0xFFFF#16, 0x1462#16, fun _ => .ipush16⟩,
  ⟨0xFFFF#16, 0x1463#16, fun _ => .ipop16⟩,
  ⟨0xFFE8#16, 0x1480#16, fun w => .pop16 (w.extractLsb' 4 1) (w.extractLsb' 0 3)⟩,
  ⟨0xFFEF#16, 0x1488#16, fun w => .pop16List8 (w.extractLsb' 4 1)⟩,
  ⟨0xFFE8#16, 0x14C0#16, fun w => .push16 (w.extractLsb' 4 1) (w.extractLsb' 0 3)⟩,
  ⟨0xFFEF#16, 0x14C8#16, fun w => .push16List8 (w.extractLsb' 4 1)⟩]

/-- Formats I8a, I5c, I5a, I3 and R3 (30_encoding.md R168 to R175). -/
def rowsImm : List (Row 16) := [
  ⟨0xF800#16, 0x1800#16, fun w => .addi16RzSp (w.extractLsb' 8 3) (w.extractLsb' 0 8)⟩,
  ⟨0xF800#16, 0x2000#16, fun w => .addi16Oimm8 (w.extractLsb' 8 3) (w.extractLsb' 0 8)⟩,
  ⟨0xF800#16, 0x2800#16, fun w => .subi16Oimm8 (w.extractLsb' 8 3) (w.extractLsb' 0 8)⟩,
  ⟨0xF800#16, 0x3000#16, fun w => .movi16 (w.extractLsb' 8 3) (w.extractLsb' 0 8)⟩,
  ⟨0xF8E0#16, 0x3800#16, fun w => .cmphsi16 (w.extractLsb' 8 3) (w.extractLsb' 0 5)⟩,
  ⟨0xF8E0#16, 0x3820#16, fun w => .cmplti16 (w.extractLsb' 8 3) (w.extractLsb' 0 5)⟩,
  ⟨0xF8E0#16, 0x3840#16, fun w => .cmpnei16 (w.extractLsb' 8 3) (w.extractLsb' 0 5)⟩,
  ⟨0xF8E0#16, 0x3880#16, fun w => .bclri16 (w.extractLsb' 8 3) (w.extractLsb' 0 5)⟩,
  ⟨0xF8E0#16, 0x38A0#16, fun w => .bseti16 (w.extractLsb' 8 3) (w.extractLsb' 0 5)⟩,
  ⟨0xF8E0#16, 0x38C0#16, fun w => .btsti16 (w.extractLsb' 8 3) (w.extractLsb' 0 5)⟩,
  ⟨0xF800#16, 0x4000#16, fun w => .lsli16 (w.extractLsb' 5 3) (w.extractLsb' 8 3) (w.extractLsb' 0 5)⟩,
  ⟨0xF800#16, 0x4800#16, fun w => .lsri16 (w.extractLsb' 5 3) (w.extractLsb' 8 3) (w.extractLsb' 0 5)⟩,
  ⟨0xF800#16, 0x5000#16, fun w => .asri16 (w.extractLsb' 5 3) (w.extractLsb' 8 3) (w.extractLsb' 0 5)⟩,
  ⟨0xF803#16, 0x5800#16, fun w => .addu16RzRxRy (w.extractLsb' 5 3) (w.extractLsb' 8 3) (w.extractLsb' 2 3)⟩,
  ⟨0xF803#16, 0x5801#16, fun w => .subu16RzRxRy (w.extractLsb' 5 3) (w.extractLsb' 8 3) (w.extractLsb' 2 3)⟩,
  ⟨0xF803#16, 0x5802#16, fun w => .addi16Oimm3 (w.extractLsb' 5 3) (w.extractLsb' 8 3) (w.extractLsb' 2 3)⟩,
  ⟨0xF803#16, 0x5803#16, fun w => .subi16Oimm3 (w.extractLsb' 5 3) (w.extractLsb' 8 3) (w.extractLsb' 2 3)⟩]

/-- Formats R2 and R1 (30_encoding.md R176, R177). -/
def rowsReg : List (Row 16) := [
  ⟨0xFC03#16, 0x6000#16, fun w => .addu16RzRx (w.extractLsb' 6 4) (w.extractLsb' 2 4)⟩,
  ⟨0xFC03#16, 0x6001#16, fun w => .addc16 (w.extractLsb' 6 4) (w.extractLsb' 2 4)⟩,
  ⟨0xFC03#16, 0x6002#16, fun w => .subu16RzRx (w.extractLsb' 6 4) (w.extractLsb' 2 4)⟩,
  ⟨0xFC03#16, 0x6003#16, fun w => .subc16 (w.extractLsb' 6 4) (w.extractLsb' 2 4)⟩,
  ⟨0xFC03#16, 0x6400#16, fun w => .cmphs16 (w.extractLsb' 2 4) (w.extractLsb' 6 4)⟩,
  ⟨0xFC03#16, 0x6401#16, fun w => .cmplt16 (w.extractLsb' 2 4) (w.extractLsb' 6 4)⟩,
  ⟨0xFC03#16, 0x6402#16, fun w => .cmpne16 (w.extractLsb' 2 4) (w.extractLsb' 6 4)⟩,
  ⟨0xFC3F#16, 0x6403#16, fun w => .mvcv16 (w.extractLsb' 6 4)⟩,
  ⟨0xFC03#16, 0x6800#16, fun w => .and16 (w.extractLsb' 6 4) (w.extractLsb' 2 4)⟩,
  ⟨0xFC03#16, 0x6801#16, fun w => .andn16 (w.extractLsb' 6 4) (w.extractLsb' 2 4)⟩,
  ⟨0xFC03#16, 0x6802#16, fun w => .tst16 (w.extractLsb' 2 4) (w.extractLsb' 6 4)⟩,
  ⟨0xFFC3#16, 0x6803#16, fun w => .tstnbz16 (w.extractLsb' 2 4)⟩,
  ⟨0xFC03#16, 0x6C00#16, fun w => .or16 (w.extractLsb' 6 4) (w.extractLsb' 2 4)⟩,
  ⟨0xFC03#16, 0x6C01#16, fun w => .xor16 (w.extractLsb' 6 4) (w.extractLsb' 2 4)⟩,
  ⟨0xFC03#16, 0x6C02#16, fun w => .nor16 (w.extractLsb' 6 4) (w.extractLsb' 2 4)⟩,
  ⟨0xFC03#16, 0x6C03#16, fun w => .mov16 (w.extractLsb' 6 4) (w.extractLsb' 2 4)⟩,
  ⟨0xFC03#16, 0x7000#16, fun w => .lsl16 (w.extractLsb' 6 4) (w.extractLsb' 2 4)⟩,
  ⟨0xFC03#16, 0x7001#16, fun w => .lsr16 (w.extractLsb' 6 4) (w.extractLsb' 2 4)⟩,
  ⟨0xFC03#16, 0x7002#16, fun w => .asr16 (w.extractLsb' 6 4) (w.extractLsb' 2 4)⟩,
  ⟨0xFC03#16, 0x7003#16, fun w => .rotl16 (w.extractLsb' 6 4) (w.extractLsb' 2 4)⟩,
  ⟨0xFC03#16, 0x7400#16, fun w => .zextb16 (w.extractLsb' 6 4) (w.extractLsb' 2 4)⟩,
  ⟨0xFC03#16, 0x7401#16, fun w => .zexth16 (w.extractLsb' 6 4) (w.extractLsb' 2 4)⟩,
  ⟨0xFC03#16, 0x7402#16, fun w => .sextb16 (w.extractLsb' 6 4) (w.extractLsb' 2 4)⟩,
  ⟨0xFC03#16, 0x7403#16, fun w => .sexth16 (w.extractLsb' 6 4) (w.extractLsb' 2 4)⟩,
  ⟨0xFFC3#16, 0x7800#16, fun w => .jmp16 (w.extractLsb' 2 4)⟩,
  ⟨0xFFC3#16, 0x7801#16, fun w => .jsr16 (w.extractLsb' 2 4)⟩,
  ⟨0xFC03#16, 0x7C00#16, fun w => .mult16 (w.extractLsb' 6 4) (w.extractLsb' 2 4)⟩]

/-- Formats I5m and I8b (30_encoding.md R170, R174). -/
def rowsMem : List (Row 16) := [
  ⟨0xF800#16, 0x8000#16, fun w => .ld16b (w.extractLsb' 5 3) (w.extractLsb' 8 3) (w.extractLsb' 0 5)⟩,
  ⟨0xF800#16, 0x8800#16, fun w => .ld16h (w.extractLsb' 5 3) (w.extractLsb' 8 3) (w.extractLsb' 0 5)⟩,
  ⟨0xF800#16, 0x9000#16, fun w => .ld16w (w.extractLsb' 5 3) (w.extractLsb' 8 3) (w.extractLsb' 0 5)⟩,
  ⟨0xF800#16, 0x9800#16, fun w => .ld16wSp (w.extractLsb' 5 3) (w.extractLsb' 8 3) (w.extractLsb' 0 5)⟩,
  ⟨0xF800#16, 0xA000#16, fun w => .st16b (w.extractLsb' 5 3) (w.extractLsb' 8 3) (w.extractLsb' 0 5)⟩,
  ⟨0xF800#16, 0xA800#16, fun w => .st16h (w.extractLsb' 5 3) (w.extractLsb' 8 3) (w.extractLsb' 0 5)⟩,
  ⟨0xF800#16, 0xB000#16, fun w => .st16w (w.extractLsb' 5 3) (w.extractLsb' 8 3) (w.extractLsb' 0 5)⟩,
  ⟨0xF800#16, 0xB800#16, fun w => .st16wSp (w.extractLsb' 5 3) (w.extractLsb' 8 3) (w.extractLsb' 0 5)⟩]

/-- The 16-bit rows of 30_encoding.md R188. -/
def rows16 : List (Row 16) := rowsLow ++ rowsImm ++ rowsReg ++ rowsMem

/-- The second pattern of JSR16, legal only with JSR16_ALT_ENCODING (30_encoding.md R190). -/
def jsr16AltRow : Row 16 := ⟨0xFFC3#16, 0x7BC1#16, fun w => .jsr16 (w.extractLsb' 2 4)⟩

/-- Format R32 (30_encoding.md R164, R181). -/
def rowsSys : List (Row 32) := [
  ⟨0xFFFFFFFF#32, 0xC0000420#32, fun _ => .sync32⟩,
  ⟨0xFC1FFFFF#32, 0xC0001C20#32, fun w => .idly32 (w.extractLsb' 21 5)⟩,
  ⟨0xFFFFF3FF#32, 0xC0002020#32, fun w => .trap32 (w.extractLsb' 10 2)⟩,
  ⟨0xFFFFFFFF#32, 0xC0004020#32, fun _ => .rte32⟩,
  ⟨0xFFFFFFFF#32, 0xC0004820#32, fun _ => .stop32⟩,
  ⟨0xFFFFFFFF#32, 0xC0004C20#32, fun _ => .wait32⟩,
  ⟨0xFFFFFFFF#32, 0xC0005020#32, fun _ => .doze32⟩,
  ⟨0xFC00FFF0#32, 0xC0006020#32, fun w => .mfcr32 (w.extractLsb' 0 4) (w.extractLsb' 16 5) (w.extractLsb' 21 5)⟩,
  ⟨0xFC10FFE0#32, 0xC0006420#32, fun w => .mtcr32 (w.extractLsb' 16 4) (w.extractLsb' 0 5) (w.extractLsb' 21 5)⟩,
  ⟨0xFC1FFFFF#32, 0xC0007020#32, fun w => .psrclr32 (w.extractLsb' 21 5)⟩,
  ⟨0xFC1FFFFF#32, 0xC0007420#32, fun w => .psrset32 (w.extractLsb' 21 5)⟩]

/-- Formats I12, J32 and I16 (30_encoding.md R160 to R162). -/
def rowsWide : List (Row 32) := [
  ⟨0xFE10F000#32, 0xD8000000#32, fun w => .ld32b (w.extractLsb' 21 4) (w.extractLsb' 16 4) (w.extractLsb' 0 12)⟩,
  ⟨0xFE10F000#32, 0xD8001000#32, fun w => .ld32h (w.extractLsb' 21 4) (w.extractLsb' 16 4) (w.extractLsb' 0 12)⟩,
  ⟨0xFE10F000#32, 0xD8002000#32, fun w => .ld32w (w.extractLsb' 21 4) (w.extractLsb' 16 4) (w.extractLsb' 0 12)⟩,
  ⟨0xFE10F000#32, 0xDC000000#32, fun w => .st32b (w.extractLsb' 21 4) (w.extractLsb' 16 4) (w.extractLsb' 0 12)⟩,
  ⟨0xFE10F000#32, 0xDC001000#32, fun w => .st32h (w.extractLsb' 21 4) (w.extractLsb' 16 4) (w.extractLsb' 0 12)⟩,
  ⟨0xFE10F000#32, 0xDC002000#32, fun w => .st32w (w.extractLsb' 21 4) (w.extractLsb' 16 4) (w.extractLsb' 0 12)⟩,
  ⟨0xFC000000#32, 0xE0000000#32, fun w => .bsr32 (w.extractLsb' 0 26)⟩,
  ⟨0xFFFF0000#32, 0xE8000000#32, fun w => .br32 (w.extractLsb' 0 16)⟩,
  ⟨0xFFF00000#32, 0xEA800000#32, fun w => .lrw32 (w.extractLsb' 16 4) (w.extractLsb' 0 16)⟩]

/-- The 32-bit rows of 30_encoding.md R188. -/
def rows32 : List (Row 32) := rowsSys ++ rowsWide

/-- The 16-bit rows of a configuration. -/
def rows16Of (c : Config) : List (Row 16) :=
  if c.jsr16Alt then rows16 ++ [jsr16AltRow] else rows16

/-- Decode an instruction word (30_encoding.md R153 steps 2 and 3). -/
def decodeWord (c : Config) : InstrWord → Except DecodeError Instr
  | .half h =>
    match lookup (rows16Of c) h with
    | none => .error (.unimplemented16 h)
    | some i => if i.needsNestInt && !c.hasNestInt then .error (.nestingAbsent h) else .ok i
  | .full w =>
    match lookup rows32 w with
    | none => .error (.unimplemented32 w)
    | some i => .ok i

/-- The first halfword tells the length: bits 15:14 = 11 for 32 bits (30_encoding.md R150). -/
def isLong (h0 : Half) : Bool := h0.extractLsb' 14 2 == 0b11#2

/-- Split the next instruction word off a list of bytes at ascending addresses (20_memory.md R102, R112). -/
def splitWord (e : Endian) : List Byte → Except DecodeError (InstrWord × List Byte)
  | b0 :: b1 :: rest =>
    if isLong (joinHalf e b0 b1) then
      match rest with
      | b2 :: b3 :: rest' => .ok (.full (joinHalf e b0 b1 ++ joinHalf e b2 b3), rest')
      | _ => .error .truncated
    else .ok (.half (joinHalf e b0 b1), rest)
  | _ => .error .truncated

/-- Decode the instruction at the head of a list of bytes, with the bytes after it. -/
def decode (c : Config) (bytes : List Byte) : Except DecodeError (Instr × List Byte) :=
  match splitWord c.endian bytes with
  | .error e => .error e
  | .ok (w, rest) =>
    match decodeWord c w with
    | .error e => .error e
    | .ok i => .ok (i, rest)

/-- The length in bytes, ilen (30_encoding.md R150). -/
def InstrWord.length : InstrWord → Nat
  | .half _ => 2
  | .full _ => 4

/-- The bytes of an instruction word as memory holds them, the first halfword at the lower address (20_memory.md R102). -/
def InstrWord.bytes (e : Endian) : InstrWord → List Byte
  | .half h => halfBytes e h
  | .full w => halfBytes e (w.extractLsb' 16 16) ++ halfBytes e (w.extractLsb' 0 16)

/-- The word of an instruction, from the encoding each instruction rule prints (30_encoding.md R188). -/
def encode : Instr → InstrWord
  | .bkpt16 => .half 0x0000#16
  | .lrw16 rz imm1 imm2 imm5 => .half (0b000#3 ++ imm1 ++ 0b00#2 ++ imm2 ++ rz ++ imm5 : BitVec 16)
  | .br16 offset => .half (0b000001#6 ++ offset : BitVec 16)
  | .bt16 offset => .half (0b000010#6 ++ offset : BitVec 16)
  | .bf16 offset => .half (0b000011#6 ++ offset : BitVec 16)
  | .addi16SpSp imm2 imm5 => .half (0b000101#6 ++ imm2 ++ 0b000#3 ++ imm5 : BitVec 16)
  | .subi16SpSp imm2 imm5 => .half (0b000101#6 ++ imm2 ++ 0b001#3 ++ imm5 : BitVec 16)
  | .nie16 => .half 0x1460#16
  | .nir16 => .half 0x1461#16
  | .ipush16 => .half 0x1462#16
  | .ipop16 => .half 0x1463#16
  | .pop16 r15 list1 => .half (0b00010100100#11 ++ r15 ++ 0b0#1 ++ list1 : BitVec 16)
  | .pop16List8 r15 => .half (0b00010100100#11 ++ r15 ++ 0b1000#4 : BitVec 16)
  | .push16 r15 list1 => .half (0b00010100110#11 ++ r15 ++ 0b0#1 ++ list1 : BitVec 16)
  | .push16List8 r15 => .half (0b00010100110#11 ++ r15 ++ 0b1000#4 : BitVec 16)
  | .addi16RzSp rz imm8 => .half (0b00011#5 ++ rz ++ imm8 : BitVec 16)
  | .addi16Oimm8 rz imm8 => .half (0b00100#5 ++ rz ++ imm8 : BitVec 16)
  | .subi16Oimm8 rz imm8 => .half (0b00101#5 ++ rz ++ imm8 : BitVec 16)
  | .movi16 rz imm8 => .half (0b00110#5 ++ rz ++ imm8 : BitVec 16)
  | .cmphsi16 rx imm5 => .half (0b00111#5 ++ rx ++ 0b000#3 ++ imm5 : BitVec 16)
  | .cmplti16 rx imm5 => .half (0b00111#5 ++ rx ++ 0b001#3 ++ imm5 : BitVec 16)
  | .cmpnei16 rx imm5 => .half (0b00111#5 ++ rx ++ 0b010#3 ++ imm5 : BitVec 16)
  | .bclri16 rz imm5 => .half (0b00111#5 ++ rz ++ 0b100#3 ++ imm5 : BitVec 16)
  | .bseti16 rz imm5 => .half (0b00111#5 ++ rz ++ 0b101#3 ++ imm5 : BitVec 16)
  | .btsti16 rx imm5 => .half (0b00111#5 ++ rx ++ 0b110#3 ++ imm5 : BitVec 16)
  | .lsli16 rz rx imm5 => .half (0b01000#5 ++ rx ++ rz ++ imm5 : BitVec 16)
  | .lsri16 rz rx imm5 => .half (0b01001#5 ++ rx ++ rz ++ imm5 : BitVec 16)
  | .asri16 rz rx imm5 => .half (0b01010#5 ++ rx ++ rz ++ imm5 : BitVec 16)
  | .addu16RzRxRy rz rx ry => .half (0b01011#5 ++ rx ++ rz ++ ry ++ 0b00#2 : BitVec 16)
  | .subu16RzRxRy rz rx ry => .half (0b01011#5 ++ rx ++ rz ++ ry ++ 0b01#2 : BitVec 16)
  | .addi16Oimm3 rz rx imm3 => .half (0b01011#5 ++ rx ++ rz ++ imm3 ++ 0b10#2 : BitVec 16)
  | .subi16Oimm3 rz rx imm3 => .half (0b01011#5 ++ rx ++ rz ++ imm3 ++ 0b11#2 : BitVec 16)
  | .addu16RzRx rz rx => .half (0b011000#6 ++ rz ++ rx ++ 0b00#2 : BitVec 16)
  | .addc16 rz rx => .half (0b011000#6 ++ rz ++ rx ++ 0b01#2 : BitVec 16)
  | .subu16RzRx rz rx => .half (0b011000#6 ++ rz ++ rx ++ 0b10#2 : BitVec 16)
  | .subc16 rz rx => .half (0b011000#6 ++ rz ++ rx ++ 0b11#2 : BitVec 16)
  | .cmphs16 rx ry => .half (0b011001#6 ++ ry ++ rx ++ 0b00#2 : BitVec 16)
  | .cmplt16 rx ry => .half (0b011001#6 ++ ry ++ rx ++ 0b01#2 : BitVec 16)
  | .cmpne16 rx ry => .half (0b011001#6 ++ ry ++ rx ++ 0b10#2 : BitVec 16)
  | .mvcv16 rz => .half (0b011001#6 ++ rz ++ 0b000011#6 : BitVec 16)
  | .and16 rz rx => .half (0b011010#6 ++ rz ++ rx ++ 0b00#2 : BitVec 16)
  | .andn16 rz rx => .half (0b011010#6 ++ rz ++ rx ++ 0b01#2 : BitVec 16)
  | .tst16 rx ry => .half (0b011010#6 ++ ry ++ rx ++ 0b10#2 : BitVec 16)
  | .tstnbz16 rx => .half (0b0110100000#10 ++ rx ++ 0b11#2 : BitVec 16)
  | .or16 rz rx => .half (0b011011#6 ++ rz ++ rx ++ 0b00#2 : BitVec 16)
  | .xor16 rz rx => .half (0b011011#6 ++ rz ++ rx ++ 0b01#2 : BitVec 16)
  | .nor16 rz rx => .half (0b011011#6 ++ rz ++ rx ++ 0b10#2 : BitVec 16)
  | .mov16 rz rx => .half (0b011011#6 ++ rz ++ rx ++ 0b11#2 : BitVec 16)
  | .lsl16 rz rx => .half (0b011100#6 ++ rz ++ rx ++ 0b00#2 : BitVec 16)
  | .lsr16 rz rx => .half (0b011100#6 ++ rz ++ rx ++ 0b01#2 : BitVec 16)
  | .asr16 rz rx => .half (0b011100#6 ++ rz ++ rx ++ 0b10#2 : BitVec 16)
  | .rotl16 rz rx => .half (0b011100#6 ++ rz ++ rx ++ 0b11#2 : BitVec 16)
  | .zextb16 rz rx => .half (0b011101#6 ++ rz ++ rx ++ 0b00#2 : BitVec 16)
  | .zexth16 rz rx => .half (0b011101#6 ++ rz ++ rx ++ 0b01#2 : BitVec 16)
  | .sextb16 rz rx => .half (0b011101#6 ++ rz ++ rx ++ 0b10#2 : BitVec 16)
  | .sexth16 rz rx => .half (0b011101#6 ++ rz ++ rx ++ 0b11#2 : BitVec 16)
  | .jmp16 rx => .half (0b0111100000#10 ++ rx ++ 0b00#2 : BitVec 16)
  | .jsr16 rx => .half (0b0111100000#10 ++ rx ++ 0b01#2 : BitVec 16)
  | .mult16 rz rx => .half (0b011111#6 ++ rz ++ rx ++ 0b00#2 : BitVec 16)
  | .ld16b rz rx imm5 => .half (0b10000#5 ++ rx ++ rz ++ imm5 : BitVec 16)
  | .ld16h rz rx imm5 => .half (0b10001#5 ++ rx ++ rz ++ imm5 : BitVec 16)
  | .ld16w rz rx imm5 => .half (0b10010#5 ++ rx ++ rz ++ imm5 : BitVec 16)
  | .ld16wSp rz imm3 imm5 => .half (0b10011#5 ++ imm3 ++ rz ++ imm5 : BitVec 16)
  | .st16b rz rx imm5 => .half (0b10100#5 ++ rx ++ rz ++ imm5 : BitVec 16)
  | .st16h rz rx imm5 => .half (0b10101#5 ++ rx ++ rz ++ imm5 : BitVec 16)
  | .st16w rz rx imm5 => .half (0b10110#5 ++ rx ++ rz ++ imm5 : BitVec 16)
  | .st16wSp rz imm3 imm5 => .half (0b10111#5 ++ imm3 ++ rz ++ imm5 : BitVec 16)
  | .sync32 => .full 0xC0000420#32
  | .idly32 imm5 => .full (0b110000#6 ++ imm5 ++ 0b000000001110000100000#21 : BitVec 32)
  | .trap32 n => .full (0b11000000000000000010#20 ++ n ++ 0b0000100000#10 : BitVec 32)
  | .rte32 => .full 0xC0004020#32
  | .stop32 => .full 0xC0004820#32
  | .wait32 => .full 0xC0004C20#32
  | .doze32 => .full 0xC0005020#32
  | .mfcr32 rz crx sel => .full (0b110000#6 ++ sel ++ crx ++ 0b011000000010#12 ++ rz : BitVec 32)
  | .mtcr32 rx crz sel => .full (0b110000#6 ++ sel ++ 0b0#1 ++ rx ++ 0b01100100001#11 ++ crz : BitVec 32)
  | .psrclr32 imm5 => .full (0b110000#6 ++ imm5 ++ 0b000000111000000100000#21 : BitVec 32)
  | .psrset32 imm5 => .full (0b110000#6 ++ imm5 ++ 0b000000111010000100000#21 : BitVec 32)
  | .ld32b rz rx imm12 => .full (0b1101100#7 ++ rz ++ 0b0#1 ++ rx ++ 0b0000#4 ++ imm12 : BitVec 32)
  | .ld32h rz rx imm12 => .full (0b1101100#7 ++ rz ++ 0b0#1 ++ rx ++ 0b0001#4 ++ imm12 : BitVec 32)
  | .ld32w rz rx imm12 => .full (0b1101100#7 ++ rz ++ 0b0#1 ++ rx ++ 0b0010#4 ++ imm12 : BitVec 32)
  | .st32b rz rx imm12 => .full (0b1101110#7 ++ rz ++ 0b0#1 ++ rx ++ 0b0000#4 ++ imm12 : BitVec 32)
  | .st32h rz rx imm12 => .full (0b1101110#7 ++ rz ++ 0b0#1 ++ rx ++ 0b0001#4 ++ imm12 : BitVec 32)
  | .st32w rz rx imm12 => .full (0b1101110#7 ++ rz ++ 0b0#1 ++ rx ++ 0b0010#4 ++ imm12 : BitVec 32)
  | .bsr32 offset => .full (0b111000#6 ++ offset : BitVec 32)
  | .br32 offset => .full (0b1110100000000000#16 ++ offset : BitVec 32)
  | .lrw32 rz imm16 => .full (0b111010101000#12 ++ rz ++ imm16 : BitVec 32)

/-- The instruction word of `nbits` bits that the opcode table numbers `w`: bit 0 is the least significant bit of the
whole word, and a 32-bit word's first halfword is its bits 31:16 (spec/opcode_table.json, 30_encoding.md R150). -/
def tableWord (nbits w : Nat) : InstrWord :=
  if nbits ≤ 16 then .half (BitVec.ofNat 16 w) else .full (BitVec.ofNat 32 w)

/-- The bytes of a table word as memory of the byte order `e` holds them, zeros up to the longest instruction. -/
def tableBytes (e : Endian) (nbits w : Nat) : List Byte :=
  (tableWord nbits w).bytes e ++ (if nbits ≤ 16 then [0, 0] else [])

/-- The instruction the decoder reads from a word numbered as the opcode table numbers it. -/
def decodeTableWord (nbits w : Nat) : Option Instr :=
  match decode Config.standard (tableBytes Config.standard.endian nbits w) with
  | .ok (i, _) => some i
  | .error _ => none

end Sys2Proof
end

