-- ==== Sys2Proof/Machine/Memory.lean ====
section
/-! DEFINITION. The 4 GB byte memory (10_state.md R80, 20_memory.md R100): a list of address and byte pairs in one canonical
form, addresses strictly rising and no entry equal to what an unlisted address reads as. -/

namespace Sys2Proof.Machine

/-- The memory: the cells that differ from the power-on content. -/
structure Memory where
  cells : List Host.Cell
deriving DecidableEq, Repr

/-- What a byte that nothing has written reads as. The content at power-on is the platform's (10_state.md R90); this is the
default of 92_eei_decisions.md section 2 (DESIGN CHOICE, unsafe, log 1). -/
def Memory.unlisted : Byte := 0

/-- The byte at a key. -/
def readCells (k : Nat) : List Host.Cell → Byte
  | [] => Memory.unlisted
  | c :: rest => if k = c.1 then c.2 else readCells k rest

/-- A cell, or none where the byte is what an unlisted address reads as. -/
def cellOf (k : Nat) (b : Byte) : List Host.Cell :=
  if b = Memory.unlisted then [] else [(k, b)]

/-- Put a byte at a key, keeping the canonical form. -/
def writeCells (k : Nat) (b : Byte) : List Host.Cell → List Host.Cell
  | [] => cellOf k b
  | c :: rest =>
    if k < c.1 then cellOf k b ++ c :: rest
    else if k = c.1 then cellOf k b ++ rest
    else c :: writeCells k b rest

/-- The byte at an address (20_memory.md R100). -/
def Memory.read (m : Memory) (a : Word) : Byte := readCells a.toNat m.cells

/-- The memory with one byte replaced. -/
def Memory.write (m : Memory) (a : Word) (b : Byte) : Memory := ⟨writeCells a.toNat b m.cells⟩

/-- The memory with consecutive bytes replaced, addresses modulo 2^32. -/
def Memory.writeBytes (m : Memory) (a : Word) : List Byte → Memory
  | [] => m
  | b :: rest => (m.write a b).writeBytes (a + 1) rest

/-- The halfword at an address, in the byte order given (20_memory.md R101). -/
def Memory.readHalf (m : Memory) (e : Endian) (a : Word) : Half :=
  joinHalf e (m.read a) (m.read (a + 1))

/-- The word at an address, in the byte order given (20_memory.md R101). -/
def Memory.readWord (m : Memory) (e : Endian) (a : Word) : Word :=
  joinWord e (m.read a) (m.read (a + 1)) (m.read (a + 2)) (m.read (a + 3))

/-- Keys strictly rising from a lower bound, below 2^32, and no cell equal to an unlisted byte. -/
def cellsFrom (low : Nat) : List Host.Cell → Bool
  | [] => true
  | c :: rest => decide (low ≤ c.1) && decide (c.1 < 2 ^ 32) && decide (c.2 ≠ Memory.unlisted) && cellsFrom (c.1 + 1) rest

/-- The canonical form. -/
def Memory.wf (m : Memory) : Bool := cellsFrom 0 m.cells

end Sys2Proof.Machine
end

