-- ==== Sys2Proof/Machine/State.lean ====
section
/-! DEFINITION. The whole state of the machine as plain data (10_state.md), the reasons a step can stop, and the state after
power-on reset (10_state.md R90, 70_reset_and_hazards.md R472). INVENTORY.md lists every field with its rule. -/

namespace Sys2Proof.Machine

/-- The implemented general registers R0 to R8, R13, R14, R15 (10_state.md R31). -/
structure Regs where
  r0 : Word
  r1 : Word
  r2 : Word
  r3 : Word
  r4 : Word
  r5 : Word
  r6 : Word
  r7 : Word
  r8 : Word
  r13 : Word
  r14 : Word
  r15 : Word
deriving DecidableEq, Repr

/-- The fields of PSR, and of EPSR, which implements the same bits (10_state.md R45, R54). Reserved bits have no storage:
they read 0 and ignore writes. -/
structure Psr where
  /-- Supervisor mode (10_state.md R46). -/
  s : Bool
  /-- Exception vector number (10_state.md R47). -/
  vec : BitVec 8
  /-- Misalignment exception mask (10_state.md R48). -/
  mm : Bool
  /-- Exception enable (10_state.md R49). -/
  ee : Bool
  /-- Interrupt control (10_state.md R50). -/
  ic : Bool
  /-- Interrupt enable (10_state.md R51). -/
  ie : Bool
  /-- Condition/carry bit (10_state.md R40). -/
  c : Bool
deriving DecidableEq, Repr

/-- The fields of one protection region control register (10_state.md R68). -/
structure Pacr where
  /-- Address bits 31:10 of the region start (10_state.md R69). -/
  base : BitVec 22
  /-- The region holds 2^(size+1) bytes (10_state.md R70). -/
  size : BitVec 5
  /-- Region enable (10_state.md R71). -/
  e : Bool
deriving DecidableEq, Repr

/-- Whether instructions execute (10_state.md R86), and the terminal state of 60_exceptions.md R418. -/
inductive RunState
  | running
  | wait
  | doze
  | stop
  | stuck
deriving DecidableEq, Repr

/-- What the platform presents at one instruction boundary (60_exceptions.md R430, 70_reset_and_hazards.md R470). -/
inductive Input
  | idle
  | irq (vector : BitVec 8)
  | reset
deriving DecidableEq, Repr

/-- The machine. -/
structure State where
  /-- Implementation parameters; no step changes them. -/
  cfg : Config
  /-- General registers (10_state.md R31). -/
  regs : Regs
  /-- Address of the instruction being executed (10_state.md R36). -/
  pc : Word
  /-- CR<0,0> (10_state.md R45). -/
  psr : Psr
  /-- CR<2,0> (10_state.md R54). -/
  epsr : Psr
  /-- CR<4,0> (10_state.md R55). -/
  epc : Word
  /-- CR<11,0>, where present (10_state.md R57). -/
  gcr : Word
  /-- CCR.MP (10_state.md R63). -/
  mp : BitVec 2
  /-- CR<19,0> (10_state.md R64). -/
  capr : Word
  /-- CR<20,0>, one register per region (10_state.md R68). -/
  pacr : Vector Pacr 8
  /-- PRSR.RID (10_state.md R72). -/
  rid : BitVec 3
  /-- CHR.IAE (10_state.md R75). -/
  iae : Bool
  /-- Interrupt-delay counter (10_state.md R85). -/
  idlyCnt : Nat
  /-- Low-power state (10_state.md R86). -/
  runState : RunState
  /-- The 4 GB memory (10_state.md R80). -/
  mem : Memory
  /-- The halfwords at the pc and after it that were fetched before the instruction at the pc started (20_memory.md R133);
  none after a control transfer. -/
  window : List Half
  /-- The platform's samples for the coming boundaries, the next one first; idle when there is none (log 11). -/
  inputs : List Input
  /-- The model's own counter: the next free value (logs 18 and 19). -/
  free : Nat
deriving DecidableEq, Repr

/-- The one way the machine stops for good. -/
inductive Fault
  /-- Raised by the step after the terminal state `stuck` of 60_exceptions.md R418: the vector word of the unrecoverable
  error could not be fetched either. Safe: the model stops where the spec says the core makes no progress. -/
  | lockup
deriving DecidableEq, Repr

/-- Why the model does not go on, where the spec says that a model refuses. -/
inductive Refusal
  /-- Raised by the dispatch for an instruction without a meaning; no arm does. Safe. -/
  | notModelled (mnemonic : String)
  /-- Raised by the step: big-endian with BE_V2 = 0 (20_memory.md R102). Safe. -/
  | unsupportedConfig
  /-- Raised by MTCR32 to CCR, and by the MPU, for CCR.MP = 10 or 11 (10_state.md R63). Safe. -/
  | reservedMp
  /-- Raised by the MPU when an enabled region with a reserved Size is consulted (10_state.md R70). Safe. -/
  | reservedRegionSize
  /-- Raised by every step but a reset while CHR.IAE = 1 (10_state.md R75, log 12). Safe. -/
  | acceleratedInterrupt
  /-- Raised by the step for an interrupt vector below 32 (60_exceptions.md R430). Safe. -/
  | irqVectorReserved
  /-- Raised by an access to a device of the TCIP window, whose behaviour the spec does not give (20_memory.md R116). Safe. -/
  | tcipDevice
deriving DecidableEq, Repr

/-- PSR after reset: supervisor mode, everything else clear (10_state.md R90). -/
def Psr.atReset : Psr where
  s := true
  vec := 0
  mm := false
  ee := false
  ic := false
  ie := false
  c := false

/-- A PSR image of zeros, which the log names for EPSR at power-on (log 3). -/
def Psr.zero : Psr where
  s := false
  vec := 0
  mm := false
  ee := false
  ic := false
  ie := false
  c := false

/-- A region register of zeros: disabled (10_state.md R68, log 4). -/
def Pacr.zero : Pacr where
  base := 0
  size := 0
  e := false

/-- General registers of zeros (log 2). -/
def Regs.zero : Regs where
  r0 := 0
  r1 := 0
  r2 := 0
  r3 := 0
  r4 := 0
  r5 := 0
  r6 := 0
  r7 := 0
  r8 := 0
  r13 := 0
  r14 := 0
  r15 := 0

/-- The machine right after power-on reset (10_state.md R90, 70_reset_and_hazards.md R472). The pc is the word at address 0
of the empty memory with bit 0 cleared (log 36); what the spec leaves unspecified holds the values logs 2, 3, 4 and 35
name. -/
def State.reset : State where
  cfg := Config.standard
  regs := Regs.zero
  pc := 0
  psr := Psr.atReset
  epsr := Psr.zero
  epc := 0
  gcr := 0
  mp := 0
  capr := 0
  pacr := #v[Pacr.zero, Pacr.zero, Pacr.zero, Pacr.zero, Pacr.zero, Pacr.zero, Pacr.zero, Pacr.zero]
  rid := 0
  iae := false
  idlyCnt := 0
  runState := .running
  mem := ⟨[]⟩
  window := []
  inputs := []
  free := 0

end Sys2Proof.Machine
end

