-- ==== Sys2Proof/Machine/Result.lean ====
section
/-! DEFINITION. The synchronous exceptions with their vectors (60_exceptions.md R400), and the results the shared operations
give: a value, an exception to take, or a refusal. -/

namespace Sys2Proof.Machine

/-- The outcome of a meaning and of a step. -/
abbrev Out := Host.Outcome State Fault Refusal

/-- The synchronous exceptions of the core (60_exceptions.md R403 to R408, R420). -/
inductive Exc
  | misaligned
  | accessError
  | illegal
  | privilege
  | breakpoint
  | unrecoverable
  | trap (n : BitVec 2)
deriving DecidableEq, Repr

/-- The vector number of an exception (60_exceptions.md R400). -/
def Exc.vector : Exc → BitVec 8
  | .misaligned => 1
  | .accessError => 2
  | .illegal => 4
  | .privilege => 5
  | .breakpoint => 7
  | .unrecoverable => 8
  | .trap n => 16 + n.setWidth 8

/-- The answer to one access: allowed, an access error, or outside the model. -/
inductive Verdict
  | permit
  | deny
  | refuse (r : Refusal)
deriving DecidableEq, Repr

/-- What an operation gives: a value; an exception to take in the state reached so far; a refusal. -/
inductive Res (α : Type) where
  | ok (v : α)
  | raise (e : Exc) (s : State)
  | refuse (r : Refusal)
deriving DecidableEq, Repr

/-- Go on with the value of an operation. -/
def Res.andThen {α β : Type} (r : Res α) (k : α → Res β) : Res β :=
  match r with
  | .ok v => k v
  | .raise e s => .raise e s
  | .refuse q => .refuse q

/-- Apply a function to the value of an operation. -/
def Res.map {α β : Type} (f : α → β) (r : Res α) : Res β :=
  r.andThen fun v => .ok (f v)

end Sys2Proof.Machine
end

