-- ==== Sys2Proof/Machine/Registers.lean ====
section
/-! DEFINITION. Reads and writes of the general registers (10_state.md R30), the PC and the C bit: the one place where each
is reached. -/

namespace Sys2Proof.Machine

/-- The register number is one of the twelve implemented (10_state.md R31). -/
def implementedReg (n : Reg) : Bool := decide (n.toNat ≤ 8) || decide (13 ≤ n.toNat)

/-- Read of a register; r9 to r12 read 0 (10_state.md R30). -/
def Regs.get (r : Regs) (n : Reg) : Word :=
  match n.toNat with
  | 0 => r.r0
  | 1 => r.r1
  | 2 => r.r2
  | 3 => r.r3
  | 4 => r.r4
  | 5 => r.r5
  | 6 => r.r6
  | 7 => r.r7
  | 8 => r.r8
  | 13 => r.r13
  | 14 => r.r14
  | 15 => r.r15
  | _ => 0

/-- Write of a register; a write to r9 to r12 has no effect (10_state.md R30). -/
def Regs.set (r : Regs) (n : Reg) (v : Word) : Regs :=
  match n.toNat with
  | 0 => { r with r0 := v }
  | 1 => { r with r1 := v }
  | 2 => { r with r2 := v }
  | 3 => { r with r3 := v }
  | 4 => { r with r4 := v }
  | 5 => { r with r5 := v }
  | 6 => { r with r6 := v }
  | 7 => { r with r7 := v }
  | 8 => { r with r8 := v }
  | 13 => { r with r13 := v }
  | 14 => { r with r14 := v }
  | 15 => { r with r15 := v }
  | _ => r

/-- `x[n]` (00_scope.md R14). -/
def State.reg (s : State) (n : Reg) : Word := s.regs.get n

/-- `x[n] <- v` (00_scope.md R14). -/
def State.setReg (s : State) (n : Reg) (v : Word) : State := { s with regs := s.regs.set n v }

/-- `C <- b`, bit 0 of PSR (10_state.md R40). -/
def State.setC (s : State) (b : Bool) : State := { s with psr := { s.psr with c := b } }

/-- `pc <- a`. -/
def State.setPc (s : State) (a : Word) : State := { s with pc := a }

/-- Replace the memory. -/
def State.setMem (s : State) (m : Memory) : State := { s with mem := m }

/-- `pc <- pc + ilen`, modulo 2^32: what an instruction that is not a taken transfer ends with (10_state.md R38, R39). -/
def State.advance (s : State) (ilen : Word) : State := s.setPc (s.pc + ilen)

/-- A control transfer: `pc <- a`, and every later fetch begins after it (20_memory.md R133). -/
def State.jump (s : State) (a : Word) : State := { s with pc := a, window := [] }

/-- Bit 0 of a value moved to the PC is dropped (10_state.md R37). -/
def evenAddr (a : Word) : Word := a &&& 0xFFFFFFFE

end Sys2Proof.Machine
end

