-- ==== Sys2Proof/Machine/Operands.lean ====
section
/-! DEFINITION. The value each instruction builds from its fields (30_encoding.md R180): immediates, branch displacements,
effective addresses and register lists. -/

namespace Sys2Proof.Machine

/-- An offset-by-one immediate: `zext(IMM) + 1` (00_scope.md R15). -/
def biased {n : Nat} (imm : BitVec n) : Word := imm.setWidth 32 + 1

/-- An unsigned immediate: `zext(IMM)`. -/
def plainImm {n : Nat} (imm : BitVec n) : Word := imm.setWidth 32

/-- An unsigned immediate scaled by 2: `zext(IMM) << 1`. -/
def scaled2 {n : Nat} (imm : BitVec n) : Word := imm.setWidth 32 <<< 1

/-- An unsigned immediate scaled by 4: `zext(IMM) << 2`. -/
def scaled4 {n : Nat} (imm : BitVec n) : Word := imm.setWidth 32 <<< 2

/-- A branch displacement: `sext(Offset << 1)`, the sign that of the widened field (42_branch_jump.md R287). -/
def displacement {n : Nat} (offset : BitVec n) : Word := (offset ++ 0#1).signExtend 32

/-- Offset8 of LRW16: the seven bits as they are with IMM1 = 1, complemented under a leading 1 with IMM1 = 0
(41_compare_move_bit_ext_mult.md R262). -/
def lrwOffset (imm1 : BitVec 1) (imm2 : BitVec 2) (imm5 : BitVec 5) : BitVec 8 :=
  if imm1 = 1 then 0#1 ++ (imm2 ++ imm5 : BitVec 7) else 1#1 ++ ~~~(imm2 ++ imm5 : BitVec 7)

/-- The literal's address, low two bits cleared (20_memory.md R109). -/
def literalAddr {n : Nat} (pc : Word) (offset : BitVec n) : Word :=
  (pc + scaled4 offset) &&& 0xFFFFFFFC

/-- n of IDLY32: 4 for IMM5 up to 3, else IMM5 + 1 (44_privileged_special.md R352). -/
def idlyCount (imm5 : BitVec 5) : Nat := if imm5.toNat ≤ 3 then 4 else imm5.toNat + 1

/-- r4 to r(3+n), ascending (43_load_store.md R320). -/
def savedRegs (n : Nat) : List Reg := (List.range n).map fun k => BitVec.ofNat 4 (4 + k)

/-- The register list of PUSH16 and POP16: the LIST1 registers, then r15 (43_load_store.md R320). -/
def regList (r15 : BitVec 1) (n : Nat) : List Reg := savedRegs n ++ (if r15 = 1 then [lr] else [])

/-- The registers IPUSH16 and IPOP16 move, the lowest address first (43_load_store.md R324). -/
def interruptRegs : List Reg := [0, 1, 2, 3, 12, 13]

/-- The shift count of the register-count shifts: the low 6 bits (40_arith_logic_shift.md R232). -/
def shiftCount (v : Word) : Nat := (v.extractLsb' 0 6).toNat

end Sys2Proof.Machine
end

