-- ==== Sys2Proof/Machine/Flags.lean ====
section
/-! DEFINITION. Results and the C bit: the 33-bit sums of ADDC16 and SUBC16, the shifts and the relations of the compare and
test instructions. -/

namespace Sys2Proof.Machine

/-- `u(a) + u(b) + C` in 33 bits (40_arith_logic_shift.md R214). -/
def sum33 (a b : Word) (c : Bool) : BitVec 33 :=
  a.setWidth 33 + b.setWidth 33 + (BitVec.ofBool c).setWidth 33

/-- The low 32 bits of a 33-bit sum. -/
def sumWord (t : BitVec 33) : Word := t.extractLsb' 0 32

/-- The carry, bit 32 of a 33-bit sum. -/
def sumCarry (t : BitVec 33) : Bool := t.getLsbD 32

/-- LSL16: a count above 31 gives 0 (40_arith_logic_shift.md R225). -/
def shiftLeft (v : Word) (n : Nat) : Word := if n > 31 then 0 else v <<< n

/-- LSR16: a count above 31 gives 0 (40_arith_logic_shift.md R227). -/
def shiftRight (v : Word) (n : Nat) : Word := if n > 31 then 0 else v >>> n

/-- ASR16: a count above 30 gives 0 or -1 by the sign (40_arith_logic_shift.md R229). -/
def shiftArith (v : Word) (n : Nat) : Word :=
  if n > 30 then (if v.getLsbD 31 then 0xFFFFFFFF else 0) else v.sshiftRight n

/-- ROTL16: a count above 31 gives 0, as the manual states it (40_arith_logic_shift.md R231, log 34). -/
def rotateLeft (v : Word) (n : Nat) : Word :=
  if n > 31 then 0 else if n = 0 then v else (v <<< n) ||| (v >>> (32 - n))

/-- Unsigned `a >= b` (41_compare_move_bit_ext_mult.md R240). -/
def higherSame (a b : Word) : Bool := decide (b.toNat ≤ a.toNat)

/-- Signed `a < b` (41_compare_move_bit_ext_mult.md R242). -/
def lessThan (a b : Word) : Bool := decide (a.toInt < b.toInt)

/-- `a != b` (41_compare_move_bit_ext_mult.md R244). -/
def differs (a b : Word) : Bool := decide (a ≠ b)

/-- Some bit is set in both (41_compare_move_bit_ext_mult.md R246). -/
def testBits (a b : Word) : Bool := decide (a &&& b ≠ 0)

/-- No byte of the word is zero (41_compare_move_bit_ext_mult.md R247). -/
def noZeroByte (a : Word) : Bool :=
  decide (a.extractLsb' 24 8 ≠ 0) && decide (a.extractLsb' 16 8 ≠ 0) && decide (a.extractLsb' 8 8 ≠ 0) &&
    decide (a.extractLsb' 0 8 ≠ 0)

end Sys2Proof.Machine
end

