-- ==== Sys2Proof/Machine/ControlRegs.lean ====
section
/-! DEFINITION. The 32-bit images of the control registers and the read and write views MFCR32 and MTCR32 have of them
(10_state.md R42 to R75, 44_privileged_special.md R343, R344). The bit positions of PSR, CCR and CHR other than C and MP are
from general knowledge, as the spec marks them (logs 5, 6, 7); no other file depends on them. -/

namespace Sys2Proof.Machine

/-- The 32-bit image of PSR or EPSR, reserved bits 0 (10_state.md R45). -/
def Psr.image (p : Psr) : Word :=
  BitVec.ofBool p.s ++ 0#7 ++ p.vec ++ 0#6 ++ BitVec.ofBool p.mm ++ BitVec.ofBool p.ee ++ BitVec.ofBool p.ic ++
    BitVec.ofBool p.ie ++ 0#5 ++ BitVec.ofBool p.c

/-- The fields of a PSR image; reserved bits are ignored (10_state.md R45). -/
def Psr.ofImage (w : Word) : Psr where
  s := w.getLsbD 31
  vec := w.extractLsb' 16 8
  mm := w.getLsbD 9
  ee := w.getLsbD 8
  ic := w.getLsbD 7
  ie := w.getLsbD 6
  c := w.getLsbD 0

/-- The 32-bit image of a region register (10_state.md R68). -/
def Pacr.image (p : Pacr) : Word := p.base ++ 0#4 ++ p.size ++ BitVec.ofBool p.e

/-- The fields of a region register image; bits 9:6 are ignored (10_state.md R68). -/
def Pacr.ofImage (w : Word) : Pacr where
  base := w.extractLsb' 10 22
  size := w.extractLsb' 1 5
  e := w.getLsbD 0

/-- The image of CCR; MP reads 0 where there is no MPU (10_state.md R59 to R63). -/
def State.ccrImage (s : State) : Word :=
  0#18 ++ BitVec.ofBool s.cfg.beV2 ++ 0#2 ++ s.cfg.sck ++ BitVec.ofBool (s.cfg.endian == .big) ++ 0#5 ++
    (if s.cfg.mpuRegions = 0 then 0#2 else s.mp)

/-- The image of CHR: SRST_VAL reads 0 (10_state.md R73, R74). -/
def State.chrImage (s : State) : Word :=
  0#27 ++ BitVec.ofBool s.iae ++ 0#4

/-- The implemented bits of CAPR: those of the regions n < MPU_REGIONS (10_state.md R64). -/
def caprMask (regions : Fin 9) : Word :=
  BitVec.ofNat 32 ((2 ^ regions.val - 1) * (2 ^ 24 + 1) + (4 ^ regions.val - 1) * 2 ^ 8)

/-- The read view of CR<n,sel> (44_privileged_special.md R343, 10_state.md R44). -/
def readCr (s : State) (n sel : BitVec 5) : Word :=
  if sel ≠ 0 then 0
  else match n.toNat with
    | 0 => s.psr.image
    | 2 => s.epsr.image
    | 4 => s.epc
    | 11 => if s.cfg.gcrGsrPresent then s.gcr else 0
    | 13 => s.cfg.cpuid
    | 18 => s.ccrImage
    | 19 => if s.cfg.mpuRegions = 0 then 0 else s.capr
    | 20 => if s.rid.toNat < s.cfg.mpuRegions.val then (s.pacr[s.rid.toNat]'s.rid.isLt).image else 0
    | 21 => if s.cfg.mpuRegions = 0 then 0 else s.rid.setWidth 32
    | 31 => s.chrImage
    | _ => 0

/-- The write view of CCR: MP alone, where there is an MPU; MP = 10 and 11 are refused (10_state.md R63). -/
def writeCcr (v : Word) (s : State) : Res State :=
  if s.cfg.mpuRegions = 0 then .ok s
  else if v.getLsbD 1 then .refuse .reservedMp
  else .ok { s with mp := v.extractLsb' 0 2 }

/-- The write view of CR<n,sel>, but for the software-reset key of CHR (44_privileged_special.md R344, 10_state.md R44). -/
def writeCr (n sel : BitVec 5) (v : Word) (s : State) : Res State :=
  if sel ≠ 0 then .ok s
  else match n.toNat with
    | 0 => .ok { s with psr := Psr.ofImage v }
    | 2 => .ok { s with epsr := Psr.ofImage v }
    | 4 => .ok { s with epc := v }
    | 11 => .ok (if s.cfg.gcrGsrPresent then { s with gcr := v } else s)
    | 18 => writeCcr v s
    | 19 => .ok (if s.cfg.mpuRegions = 0 then s else { s with capr := v &&& caprMask s.cfg.mpuRegions })
    | 20 => .ok (if s.rid.toNat < s.cfg.mpuRegions.val
        then { s with pacr := s.pacr.set s.rid.toNat (Pacr.ofImage v) s.rid.isLt } else s)
    | 21 => .ok (if s.cfg.mpuRegions = 0 then s else { s with rid := v.extractLsb' 0 3 })
    | 31 => .ok (if s.cfg.hasNestInt then { s with iae := v.getLsbD 4 } else s)
    | _ => .ok s

/-- A write to CHR whose SRST_VAL field is the key (10_state.md R74). -/
def isSoftResetWrite (n sel : BitVec 5) (v : Word) (s : State) : Bool :=
  sel == 0 && n == 31 && v.extractLsb' 16 16 == s.cfg.srstMagic

end Sys2Proof.Machine
end

