-- ==== Sys2Proof/Machine/Mpu.lean ====
section
/-! DEFINITION. The memory protection unit and the other checks of one access (20_memory.md R110, R116, R120 to R128). -/

namespace Sys2Proof.Machine

/-- The start address a region register holds, `{Base[31:10], 0b0000000000}` (10_state.md R69). -/
def Pacr.start (p : Pacr) : Word := p.base ++ 0#10

/-- The region contains the address: bits 31:Size+1 agree; base bits below the size are ignored (20_memory.md R121). -/
def Pacr.contains (p : Pacr) (a : Word) : Bool :=
  a >>> (p.size.toNat + 1) == p.start >>> (p.size.toNat + 1)

/-- Size 00000 to 01000 is reserved (10_state.md R70). -/
def Pacr.reservedSize (p : Pacr) : Bool := decide (p.size.toNat ≤ 8)

/-- What the search for the deciding region finds. -/
inductive Region
  | absent
  | decides (n : Fin 8)
  | reserved
deriving DecidableEq, Repr

/-- Consult the regions in the order given: the first enabled one that contains the address decides; an enabled one with a
reserved size ends the search (20_memory.md R121, 10_state.md R70, R71; log 14). -/
def consult (pacr : Vector Pacr 8) (a : Word) : List (Fin 8) → Region
  | [] => .absent
  | n :: rest =>
    let p := pacr[n.val]
    if !p.e then consult pacr a rest
    else if p.reservedSize then .reserved
    else if p.contains a then .decides n
    else consult pacr a rest

/-- The regions that exist, the highest index first (20_memory.md R121). -/
def regionOrder (regions : Fin 9) : List (Fin 8) :=
  ([7, 6, 5, 4, 3, 2, 1, 0] : List (Fin 8)).filter fun n => decide (n.val < regions.val)

/-- CAPR.AP of a region (10_state.md R64). -/
def State.ap (s : State) (n : Fin 8) : BitVec 2 := s.capr.extractLsb' (8 + 2 * n.val) 2

/-- CAPR.X of a region: 1 forbids instruction fetch (10_state.md R65). -/
def State.nonExec (s : State) (n : Fin 8) : Bool := s.capr.getLsbD n.val

/-- The access permission table (10_state.md R67), a fetch needing the read permission (20_memory.md R122). -/
def apAllows (super : Bool) (kind : AccessKind) (ap : BitVec 2) : Bool :=
  if super then ap != 0
  else match kind with
    | .read => ap == 2 || ap == 3
    | .fetch => ap == 2 || ap == 3
    | .write => ap == 3

/-- MpuCheck (20_memory.md R122). -/
def mpuVerdict (s : State) (kind : AccessKind) (super : Bool) (a : Word) : Verdict :=
  if s.cfg.mpuRegions = 0 ∨ s.mp = 0 then .permit
  else if s.mp.getLsbD 1 then .refuse .reservedMp
  else match consult s.pacr a (regionOrder s.cfg.mpuRegions) with
    | .absent => .deny
    | .reserved => .refuse .reservedRegionSize
    | .decides n =>
      if apAllows super kind (s.ap n) && !(decide (kind = .fetch) && s.nonExec n) then .permit else .deny

/-- The address lies in the range. -/
def inRange (r : AddrRange) (a : Word) : Bool := decide (r.first ≤ a.toNat) && decide (a.toNat ≤ r.last)

/-- One of the `n` bytes at `a` lies in the range. -/
def touches (r : AddrRange) (a : Word) (n : Nat) : Bool := (List.range n).any fun k => inRange r (a + BitVec.ofNat 32 k)

/-- BusError(a, n, kind) (20_memory.md R110). -/
def busError (c : Config) (kind : AccessKind) (a : Word) (n : Nat) : Bool :=
  c.busErrors.any fun r => decide (r.kind = kind) && decide (n ∈ r.sizes) && touches r.range a n

/-- The access touches the window of the tightly-coupled IP registers (20_memory.md R116). -/
def inTcip (c : Config) (a : Word) (n : Nat) : Bool := c.tcip.any fun r => touches r a n

/-- All checks of one access after alignment: the MPU, the window of the tightly-coupled IP (user data accesses are access
errors, R116; what the devices themselves do is not in the spec, log 16), the bus (20_memory.md R103, R104, R112). -/
def accessVerdict (s : State) (kind : AccessKind) (super : Bool) (a : Word) (n : Nat) : Verdict :=
  match mpuVerdict s kind super a with
  | .refuse r => .refuse r
  | .deny => .deny
  | .permit =>
    if busError s.cfg kind a n then .deny
    else if inTcip s.cfg a n then
      if !super && decide (kind ≠ .fetch) then .deny else .refuse .tcipDevice
    else .permit

end Sys2Proof.Machine
end

