-- ==== Sys2Proof/Machine/Ops.lean ====
section
/-! DEFINITION. The shared operations: data accesses (20_memory.md R103 to R107), instruction fetch (R112), taking an
exception and returning from one (60_exceptions.md R410, 44_privileged_special.md R347), reset (70_reset_and_hazards.md
R472), the privilege and stack-alignment checks. -/

namespace Sys2Proof.Machine

/-- The data sizes (20_memory.md R100). -/
inductive Size
  | byte
  | half
  | word
deriving DecidableEq, Repr

/-- The number of bytes of a datum. -/
def Size.bytes : Size → Nat
  | .byte => 1
  | .half => 2
  | .word => 4

/-- The address bits that alignment requires to be 0 (20_memory.md R105). -/
def Size.lowBits : Size → Word
  | .byte => 0
  | .half => 1
  | .word => 3

/-- The address is no multiple of the size (20_memory.md R105). -/
def misaligned (sz : Size) (a : Word) : Bool := a &&& sz.lowBits != 0

/-- The address with its low bits forced to 0 (20_memory.md R106). -/
def alignDown (sz : Size) (a : Word) : Word := a &&& ~~~sz.lowBits

/-- The datum at an address, zero-extended (20_memory.md R101, R111). -/
def readData (s : State) (sz : Size) (a : Word) : Word :=
  match sz with
  | .byte => (s.mem.read a).setWidth 32
  | .half => (s.mem.readHalf s.cfg.endian a).setWidth 32
  | .word => s.mem.readWord s.cfg.endian a

/-- The bytes of the low part of a register at ascending addresses (20_memory.md R101, R104). -/
def dataBytes (e : Endian) (sz : Size) (v : Word) : List Byte :=
  match sz with
  | .byte => [v.extractLsb' 0 8]
  | .half => halfBytes e (v.extractLsb' 0 16)
  | .word => wordBytes e v

/-- Memory with a datum stored. -/
def writeData (s : State) (sz : Size) (a v : Word) : State :=
  s.setMem (s.mem.writeBytes a (dataBytes s.cfg.endian sz v))

/-- The address an access is made at: the misaligned access exception while PSR.MM = 0, else the low bits cleared
(20_memory.md R103, R106). -/
def effective (s : State) (sz : Size) (a : Word) : Res Word :=
  if misaligned sz a && !s.psr.mm then .raise .misaligned s else .ok (alignDown sz a)

/-- The checks of one aligned access in the current mode. -/
def guardAccess (s : State) (kind : AccessKind) (a : Word) (n : Nat) : Res Unit :=
  match accessVerdict s kind s.psr.s a n with
  | .permit => .ok ()
  | .deny => .raise .accessError s
  | .refuse r => .refuse r

/-- A read of an address already aligned. -/
def loadAligned (s : State) (sz : Size) (a : Word) : Res Word :=
  (guardAccess s .read a sz.bytes).map fun _ => readData s sz a

/-- A write to an address already aligned. -/
def storeAligned (s : State) (sz : Size) (a v : Word) : Res State :=
  (guardAccess s .write a sz.bytes).map fun _ => writeData s sz a v

/-- MemRead (20_memory.md R103). -/
def load (s : State) (sz : Size) (a : Word) : Res Word :=
  (effective s sz a).andThen fun a' => loadAligned s sz a'

/-- MemWrite (20_memory.md R104). -/
def store (s : State) (sz : Size) (a v : Word) : Res State :=
  (effective s sz a).andThen fun a' => storeAligned s sz a' v

/-- Words read at consecutive word addresses, lowest first (43_load_store.md R322). -/
def loadWords (s : State) (a : Word) : Nat → Res (List Word)
  | 0 => .ok []
  | k + 1 => (loadAligned s .word a).andThen fun v => (loadWords s (a + 4) k).map fun vs => v :: vs

/-- Words written one after the other; a fault keeps the stores made before it (43_load_store.md R323). -/
def storeWords (s : State) : List (Word × Word) → Res State
  | [] => .ok s
  | (a, v) :: rest => (storeAligned s .word a v).andThen fun t => storeWords t rest

/-- Values paired with consecutive word addresses. -/
def wordSlots (a : Word) : List Word → List (Word × Word)
  | [] => []
  | v :: rest => (a, v) :: wordSlots (a + 4) rest

/-- Registers loaded from a list of values (43_load_store.md R322). -/
def setRegs (s : State) : List Reg → List Word → State
  | n :: ns, v :: vs => setRegs (s.setReg n v) ns vs
  | _, _ => s

/-- Steps 1 to 5 of exception entry for vector `v` (60_exceptions.md R410): the IDLY case, EPSR, EPC, then S, VEC, EE, IE. It
is a control transfer (20_memory.md R133). -/
def saveContext (v : BitVec 8) (isIrq : Bool) (ret : Word) (s : State) : State :=
  let p : Psr := { s.psr with c := s.psr.c || (decide (0 < s.idlyCnt) && !isIrq) }
  { s with
    idlyCnt := 0
    window := []
    epsr := p
    epc := ret
    psr := { p with s := true, vec := v, ee := false, ie := false } }

/-- The word of vector `v`, read in supervisor mode as a fetch (60_exceptions.md R410 step 6, 20_memory.md R125). -/
def vectorWord (s : State) (v : BitVec 8) : Res Word :=
  let a : Word := v.setWidth 32 <<< 2
  match accessVerdict s .fetch true a 4 with
  | .permit => .ok (s.mem.readWord s.cfg.endian a)
  | .deny => .raise .accessError s
  | .refuse r => .refuse r

/-- The handler starts at the vector word with bit 0 cleared (60_exceptions.md R410). -/
def enterHandler (w : Word) (s : State) : State :=
  { s with pc := evenAddr w, runState := .running }

/-- A fault on a vector fetch: the unrecoverable error with EPC kept; a second fault is the terminal state
(60_exceptions.md R418). -/
def vectorFault (s : State) : Out :=
  let t := saveContext 8 false s.epc s
  match vectorWord t 8 with
  | .ok w => .next (enterHandler w t)
  | .raise _ _ => .next { t with runState := .stuck }
  | .refuse r => .refused r

/-- Go to the handler of vector `v` in a state whose context is saved. -/
def vectorTo (v : BitVec 8) (s : State) : Out :=
  match vectorWord s v with
  | .ok w => .next (enterHandler w s)
  | .raise _ _ => vectorFault s
  | .refuse r => .refused r

/-- The vector an event is entered with: 8 for an exception while PSR.EE = 0 (60_exceptions.md R420). -/
def effectiveVector (v : BitVec 8) (isIrq : Bool) (s : State) : BitVec 8 :=
  if !s.psr.ee && !isIrq then 8 else v

/-- ExceptionEntry(v, ret) (60_exceptions.md R410). -/
def exceptionEntry (v : BitVec 8) (isIrq : Bool) (ret : Word) (s : State) : Out :=
  vectorTo (effectiveVector v isIrq s) (saveContext (effectiveVector v isIrq s) isIrq ret s)

/-- Take a synchronous exception; EPC is the address of the instruction (60_exceptions.md R412). -/
def takeException (e : Exc) (s : State) : Out := exceptionEntry e.vector false s.pc s

/-- Take an interrupt; EPC is the address of the instruction that would execute next (60_exceptions.md R412, R432). -/
def takeInterrupt (v : BitVec 8) (s : State) : Out := exceptionEntry v true s.pc s

/-- Turn the result of an operation into the outcome of an instruction. -/
def finish (r : Res State) : Out :=
  match r with
  | .ok s => .next s
  | .raise e s => takeException e s
  | .refuse q => .refused q

/-- Write one register and go on: the end of every data instruction (40_arith_logic_shift.md R213). -/
def writeBack (n : Reg) (v ilen : Word) (s : State) : Out := .next ((s.setReg n v).advance ilen)

/-- Write C and go on: the end of every compare and test instruction (41_compare_move_bit_ext_mult.md R248). -/
def writeFlag (b : Bool) (s : State) : Out := .next ((s.setC b).advance 2)

/-- Load a register from memory and go on (43_load_store.md R307 to R309). -/
def loadTo (n : Reg) (sz : Size) (a ilen : Word) (s : State) : Out :=
  finish ((load s sz a).map fun v => (s.setReg n v).advance ilen)

/-- Store the low part of a value and go on (43_load_store.md R307 to R309). -/
def storeFrom (v : Word) (sz : Size) (a ilen : Word) (s : State) : Out :=
  finish ((store s sz a v).map fun t => t.advance ilen)

/-- The multi-access instructions require an aligned SP whatever PSR.MM is (20_memory.md R107). -/
def alignedSp (s : State) : Res Unit :=
  if misaligned .word (s.reg sp) then .raise .misaligned s else .ok ()

/-- Store registers below SP, the first at the lowest address, and lower SP (43_load_store.md R321, R327). -/
def pushRegs (rs : List Reg) (s : State) : Res State :=
  let base := s.reg sp - BitVec.ofNat 32 (4 * rs.length)
  (alignedSp s).andThen fun _ =>
    (storeWords s (wordSlots base (rs.map s.reg))).map fun t => t.setReg sp base

/-- Load registers from SP upward, all loads before any register write, and raise SP (43_load_store.md R322, R327). -/
def popRegs (rs : List Reg) (s : State) : Res State :=
  (alignedSp s).andThen fun _ =>
    (loadWords s (s.reg sp) rs.length).map fun vs =>
      (setRegs s rs vs).setReg sp (s.reg sp + BitVec.ofNat 32 (4 * rs.length))

/-- End the IDLY sequence, go past the instruction and stop the clock (44_privileged_special.md R353). -/
def enterLowPower (r : RunState) (s : State) : State :=
  { s.advance 4 with idlyCnt := 0, runState := r }

/-- PSR and pc from EPSR and EPC; the IDLY sequence ends (44_privileged_special.md R347). It is a control transfer
(20_memory.md R133). -/
def returnFromException (s : State) : State :=
  { s.jump (evenAddr s.epc) with psr := s.epsr, idlyCnt := 0 }

/-- The instruction is not executed in user mode (44_privileged_special.md R340). -/
def privileged (s : State) (k : Out) : Out :=
  if s.psr.s then k else takeException .privilege s

/-- General registers of free values (10_state.md R35, log 18). -/
def freeRegs (k : Nat) : Regs where
  r0 := Config.freeWord k
  r1 := Config.freeWord (k + 1)
  r2 := Config.freeWord (k + 2)
  r3 := Config.freeWord (k + 3)
  r4 := Config.freeWord (k + 4)
  r5 := Config.freeWord (k + 5)
  r6 := Config.freeWord (k + 6)
  r7 := Config.freeWord (k + 7)
  r8 := Config.freeWord (k + 8)
  r13 := Config.freeWord (k + 9)
  r14 := Config.freeWord (k + 10)
  r15 := Config.freeWord (k + 11)

/-- The region registers a reset leaves: E = 0, base and size free where the region exists (10_state.md R68, R90). -/
def freePacr (regions : Fin 9) (k : Nat) : Vector Pacr 8 :=
  Vector.ofFn fun n =>
    if n.val < regions.val then { Pacr.ofImage (Config.freeWord (k + n.val)) with e := false } else Pacr.zero

/-- What a reset during a run writes before the vector fetch (70_reset_and_hazards.md R472); the registers that
10_state.md R90 calls unspecified hold free values, memory is not changed (log 18). -/
def resetFields (s : State) : State :=
  { s with
    psr := Psr.atReset
    mp := 0
    iae := false
    idlyCnt := 0
    runState := .running
    window := []
    regs := freeRegs s.free
    epsr := Psr.ofImage (Config.freeWord (s.free + 12))
    epc := Config.freeWord (s.free + 13)
    gcr := if s.cfg.gcrGsrPresent then Config.freeWord (s.free + 14) else 0
    capr := Config.freeWord (s.free + 15) &&& caprMask s.cfg.mpuRegions
    rid := if s.cfg.mpuRegions = 0 then 0 else (Config.freeWord (s.free + 16)).extractLsb' 0 3
    pacr := freePacr s.cfg.mpuRegions (s.free + 17)
    free := s.free + 25 }

/-- Reset (70_reset_and_hazards.md R472): the pc is the word at address 0; a bus error there is handled as R418 says. -/
def resetMachine (s : State) : Out := vectorTo 0 (resetFields s)

/-- The halfword number `k` from the pc on, whose address is `a`: the prefetched one where the window of the configuration
holds it, else what memory holds now (20_memory.md R133, log 22). -/
def State.codeHalf (s : State) (k : Nat) (a : Word) : Half :=
  (s.window.take s.cfg.ifetchPrefetch.val).getD k (s.mem.readHalf s.cfg.endian a)

/-- The halfword number `k` of an instruction; its checks are made when the instruction is executed, prefetched or not
(20_memory.md R112, 70_reset_and_hazards.md R481). -/
def fetchHalf (s : State) (k : Nat) (a : Word) : Res Half :=
  (guardAccess s .fetch a 2).map fun _ => s.codeHalf k a

/-- FetchInstr(pc) (20_memory.md R112). -/
def fetchInstr (s : State) : Res InstrWord :=
  (fetchHalf s 0 s.pc).andThen fun h0 =>
    if isLong h0 then (fetchHalf s 1 (s.pc + 2)).map fun h1 => .full (h0 ++ h1) else .ok (.half h0)

/-- While an instruction of `n` halfwords executes, the window holds the halfwords that follow it, as they were before it
(20_memory.md R133, log 22). -/
def prefetch (n : Nat) (s : State) : State :=
  { s with window := (List.range s.cfg.ifetchPrefetch.val).map fun k =>
      s.codeHalf (n + k) (s.pc + BitVec.ofNat 32 (2 * (n + k))) }

end Sys2Proof.Machine
end

