-- ==== Sys2Proof/Machine/Boundary.lean ====
section
/-! DEFINITION. The instruction boundary (60_exceptions.md R430 to R432, R441, R460, 70_reset_and_hazards.md R471): what the
platform presents is sampled, a reset or an interrupt is taken, else the next instruction is fetched and decoded; and what a
retiring instruction does to the IDLY sequence (44_privileged_special.md R352). -/

namespace Sys2Proof.Machine

/-- What follows a boundary: an outcome of the boundary itself, or an instruction to execute in a state. -/
inductive Plan
  | stop (o : Out)
  | run (i : Instr) (s : State)

/-- What the platform presents at this boundary; nothing when its list is at an end (60_exceptions.md R430, log 11). -/
def State.sample (s : State) : Input := s.inputs.headD .idle

/-- The state once the sample is taken. -/
def State.dropInput (s : State) : State := { s with inputs := s.inputs.tail }

/-- Fetch and decode; an access error of the fetch comes before the illegal instruction exception (60_exceptions.md R441
steps 2 and 3, 30_encoding.md R153); the halfwords after the instruction are fetched before it executes (20_memory.md R133).
-/
def fetchPlan (s : State) : Plan :=
  match fetchInstr s with
  | .raise e t => .stop (takeException e t)
  | .refuse r => .stop (.refused r)
  | .ok w =>
    match decodeWord s.cfg w with
    | .error _ => .stop (takeException .illegal s)
    | .ok i => .run i (prefetch (w.length / 2) s)

/-- The masks of an interrupt request (60_exceptions.md R432). -/
def acceptsInterrupt (s : State) : Bool := s.psr.ie && s.psr.ee && decide (s.idlyCnt = 0)

/-- An interrupt request at a boundary: taken, or masked and the next instruction goes on (60_exceptions.md R432, R441). -/
def interruptPlan (v : BitVec 8) (s : State) : Plan :=
  if acceptsInterrupt s then .stop (takeInterrupt v s) else fetchPlan s

/-- The core runs again (60_exceptions.md R460). -/
def State.wake (s : State) : State := { s with runState := .running }

/-- A model refuses to run with CHR.IAE = 1 (10_state.md R75, log 12). -/
def unlessAccelerated (s : State) (p : Plan) : Plan :=
  if s.iae then .stop (.refused .acceleratedInterrupt) else p

/-- A boundary with no event: a stopped clock stays stopped (60_exceptions.md R460); nothing follows the terminal state
(60_exceptions.md R418, log 20). -/
def idlePlan (s : State) : Plan :=
  match s.runState with
  | .running => unlessAccelerated s (fetchPlan s)
  | .stuck => .stop (.fault .lockup)
  | .wait => unlessAccelerated s (.stop (.next s))
  | .doze => unlessAccelerated s (.stop (.next s))
  | .stop => unlessAccelerated s (.stop (.next s))

/-- A boundary with an interrupt request: it ends a low-power state whatever the masks, then the ordinary rule applies
(60_exceptions.md R460). A vector below 32 is not allowed (R430). -/
def requestPlan (v : BitVec 8) (s : State) : Plan :=
  if s.runState = .stuck then .stop (.fault .lockup)
  else if v.toNat < 32 then .stop (.refused .irqVectorReserved)
  else unlessAccelerated s (interruptPlan v s.wake)

/-- The boundary in a state whose sample is taken; reset has the highest priority and is taken in any run state
(70_reset_and_hazards.md R471). -/
def boundaryPlan (inp : Input) (s : State) : Plan :=
  if s.cfg.supported then
    match inp with
    | .reset => .stop (resetMachine s)
    | .irq v => requestPlan v s
    | .idle => idlePlan s
  else .stop (.refused .unsupportedConfig)

/-- An instruction that retires inside an IDLY sequence counts; `n` is the counter before it (44_privileged_special.md
R352). -/
def tickIdly (n : Nat) (t : State) : State :=
  if n = 0 then t else { t with idlyCnt := t.idlyCnt - 1 }

/-- The end of an instruction that started with the IDLY counter `n`. -/
def retire (n : Nat) (o : Out) : Out :=
  match o with
  | .next t => .next (tickIdly n t)
  | .fault f => .fault f
  | .refused r => .refused r

/-- Memory with an instruction, numbered as the opcode table numbers it, at the pc: what loads a program from outside
(log 29). -/
def placeInstr (s : State) (nbits w : Nat) : Memory :=
  s.mem.writeBytes s.pc (tableBytes s.cfg.endian nbits w)

end Sys2Proof.Machine
end

