-- ==== Sys2Proof/Machine/Arith.lean ====
section
/-! DEFINITION. The add and subtract instructions (40_arith_logic_shift.md section 2). -/

namespace Sys2Proof.Machine

/-- ADDU16 rz, rx (40_arith_logic_shift.md R200). -/
def execAddu16RzRx (rz rx : BitVec 4) (s : State) : Out :=
  writeBack rz (s.reg rz + s.reg rx) 2 s

/-- ADDU16 rz, rx, ry (40_arith_logic_shift.md R201). -/
def execAddu16RzRxRy (rz rx ry : BitVec 3) (s : State) : Out :=
  writeBack (lowReg rz) (s.reg (lowReg rx) + s.reg (lowReg ry)) 2 s

/-- ADDC16 rz, rx: C is the carry (40_arith_logic_shift.md R202). -/
def execAddc16 (rz rx : BitVec 4) (s : State) : Out :=
  let t := sum33 (s.reg rz) (s.reg rx) s.psr.c
  writeBack rz (sumWord t) 2 (s.setC (sumCarry t))

/-- ADDI16 rz, oimm8 (40_arith_logic_shift.md R203). -/
def execAddi16Oimm8 (rz : BitVec 3) (imm8 : BitVec 8) (s : State) : Out :=
  writeBack (lowReg rz) (s.reg (lowReg rz) + biased imm8) 2 s

/-- ADDI16 rz, rx, oimm3 (40_arith_logic_shift.md R204). -/
def execAddi16Oimm3 (rz rx imm3 : BitVec 3) (s : State) : Out :=
  writeBack (lowReg rz) (s.reg (lowReg rx) + biased imm3) 2 s

/-- ADDI16 rz, sp, imm (40_arith_logic_shift.md R205). -/
def execAddi16RzSp (rz : BitVec 3) (imm8 : BitVec 8) (s : State) : Out :=
  writeBack (lowReg rz) (s.reg sp + scaled4 imm8) 2 s

/-- ADDI16 sp, sp, imm (40_arith_logic_shift.md R206). -/
def execAddi16SpSp (imm2 : BitVec 2) (imm5 : BitVec 5) (s : State) : Out :=
  writeBack sp (s.reg sp + scaled4 (imm2 ++ imm5)) 2 s

/-- SUBU16 rz, rx (40_arith_logic_shift.md R207). -/
def execSubu16RzRx (rz rx : BitVec 4) (s : State) : Out :=
  writeBack rz (s.reg rz - s.reg rx) 2 s

/-- SUBU16 rz, rx, ry (40_arith_logic_shift.md R208). -/
def execSubu16RzRxRy (rz rx ry : BitVec 3) (s : State) : Out :=
  writeBack (lowReg rz) (s.reg (lowReg rx) - s.reg (lowReg ry)) 2 s

/-- SUBC16 rz, rx: C is 1 where no borrow occurs (40_arith_logic_shift.md R209). -/
def execSubc16 (rz rx : BitVec 4) (s : State) : Out :=
  let t := sum33 (s.reg rz) (~~~(s.reg rx)) s.psr.c
  writeBack rz (sumWord t) 2 (s.setC (sumCarry t))

/-- SUBI16 rz, oimm8 (40_arith_logic_shift.md R210). -/
def execSubi16Oimm8 (rz : BitVec 3) (imm8 : BitVec 8) (s : State) : Out :=
  writeBack (lowReg rz) (s.reg (lowReg rz) - biased imm8) 2 s

/-- SUBI16 rz, rx, oimm3 (40_arith_logic_shift.md R211). -/
def execSubi16Oimm3 (rz rx imm3 : BitVec 3) (s : State) : Out :=
  writeBack (lowReg rz) (s.reg (lowReg rx) - biased imm3) 2 s

/-- SUBI16 sp, sp, imm (40_arith_logic_shift.md R212). -/
def execSubi16SpSp (imm2 : BitVec 2) (imm5 : BitVec 5) (s : State) : Out :=
  writeBack sp (s.reg sp - scaled4 (imm2 ++ imm5)) 2 s

end Sys2Proof.Machine
end

