-- ==== Sys2Proof/Machine/BitOps.lean ====
section
/-! DEFINITION. The bit, extract and multiply instructions (41_compare_move_bit_ext_mult.md sections 4 to 6). -/

namespace Sys2Proof.Machine

/-- BCLRI16 rz, imm5 (41_compare_move_bit_ext_mult.md R254). -/
def execBclri16 (rz : BitVec 3) (imm5 : BitVec 5) (s : State) : Out :=
  writeBack (lowReg rz) (s.reg (lowReg rz) &&& ~~~((1 : Word) <<< imm5.toNat)) 2 s

/-- BSETI16 rz, imm5 (41_compare_move_bit_ext_mult.md R255). -/
def execBseti16 (rz : BitVec 3) (imm5 : BitVec 5) (s : State) : Out :=
  writeBack (lowReg rz) (s.reg (lowReg rz) ||| (1 : Word) <<< imm5.toNat) 2 s

/-- BTSTI16 rx, imm5 (41_compare_move_bit_ext_mult.md R256). -/
def execBtsti16 (rx : BitVec 3) (imm5 : BitVec 5) (s : State) : Out :=
  writeFlag ((s.reg (lowReg rx)).getLsbD imm5.toNat) s

/-- ZEXTB16 rz, rx (41_compare_move_bit_ext_mult.md R257). -/
def execZextb16 (rz rx : BitVec 4) (s : State) : Out :=
  writeBack rz (((s.reg rx).extractLsb' 0 8).setWidth 32) 2 s

/-- ZEXTH16 rz, rx (41_compare_move_bit_ext_mult.md R258). -/
def execZexth16 (rz rx : BitVec 4) (s : State) : Out :=
  writeBack rz (((s.reg rx).extractLsb' 0 16).setWidth 32) 2 s

/-- SEXTB16 rz, rx (41_compare_move_bit_ext_mult.md R259). -/
def execSextb16 (rz rx : BitVec 4) (s : State) : Out :=
  writeBack rz (((s.reg rx).extractLsb' 0 8).signExtend 32) 2 s

/-- SEXTH16 rz, rx (41_compare_move_bit_ext_mult.md R260). -/
def execSexth16 (rz rx : BitVec 4) (s : State) : Out :=
  writeBack rz (((s.reg rx).extractLsb' 0 16).signExtend 32) 2 s

/-- MULT16 rz, rx: the low 32 bits of the product (41_compare_move_bit_ext_mult.md R261). -/
def execMult16 (rz rx : BitVec 4) (s : State) : Out :=
  writeBack rz (s.reg rx * s.reg rz) 2 s

end Sys2Proof.Machine
end

