-- ==== Sys2Proof/Machine/Branch.lean ====
section
/-! DEFINITION. The branch and jump instructions (42_branch_jump.md). -/

namespace Sys2Proof.Machine

/-- BR16 label (42_branch_jump.md R280). -/
def execBr16 (offset : BitVec 10) (s : State) : Out :=
  .next (s.jump (s.pc + displacement offset))

/-- BT16 label: taken when C = 1 (42_branch_jump.md R281). -/
def execBt16 (offset : BitVec 10) (s : State) : Out :=
  .next (if s.psr.c then s.jump (s.pc + displacement offset) else s.advance 2)

/-- BF16 label: taken when C = 0 (42_branch_jump.md R282). -/
def execBf16 (offset : BitVec 10) (s : State) : Out :=
  .next (if s.psr.c then s.advance 2 else s.jump (s.pc + displacement offset))

/-- BR32 label (42_branch_jump.md R283). -/
def execBr32 (offset : BitVec 16) (s : State) : Out :=
  .next (s.jump (s.pc + displacement offset))

/-- BSR32 label: the link is pc + 4 (42_branch_jump.md R284). -/
def execBsr32 (offset : BitVec 26) (s : State) : Out :=
  .next ((s.setReg lr (s.pc + 4)).jump (s.pc + displacement offset))

/-- JMP16 rx, RTS16 where rx = 15 (42_branch_jump.md R285). -/
def execJmp16 (rx : BitVec 4) (s : State) : Out :=
  .next (s.jump (evenAddr (s.reg rx)))

/-- JSR16 rx: rx is read before the link pc + 2 is written (42_branch_jump.md R286). -/
def execJsr16 (rx : BitVec 4) (s : State) : Out :=
  .next ((s.setReg lr (s.pc + 2)).jump (evenAddr (s.reg rx)))

end Sys2Proof.Machine
end

