-- ==== Sys2Proof/Machine/Compare.lean ====
section
/-! DEFINITION. The compare and test instructions (41_compare_move_bit_ext_mult.md section 2). -/

namespace Sys2Proof.Machine

/-- CMPHS16 rx, ry (41_compare_move_bit_ext_mult.md R240). -/
def execCmphs16 (rx ry : BitVec 4) (s : State) : Out :=
  writeFlag (higherSame (s.reg rx) (s.reg ry)) s

/-- CMPLT16 rx, ry (41_compare_move_bit_ext_mult.md R242). -/
def execCmplt16 (rx ry : BitVec 4) (s : State) : Out :=
  writeFlag (lessThan (s.reg rx) (s.reg ry)) s

/-- CMPNE16 rx, ry (41_compare_move_bit_ext_mult.md R244). -/
def execCmpne16 (rx ry : BitVec 4) (s : State) : Out :=
  writeFlag (differs (s.reg rx) (s.reg ry)) s

/-- TST16 rx, ry (41_compare_move_bit_ext_mult.md R246). -/
def execTst16 (rx ry : BitVec 4) (s : State) : Out :=
  writeFlag (testBits (s.reg rx) (s.reg ry)) s

/-- CMPHSI16 rx, imm (41_compare_move_bit_ext_mult.md R241). -/
def execCmphsi16 (rx : BitVec 3) (imm5 : BitVec 5) (s : State) : Out :=
  writeFlag (higherSame (s.reg (lowReg rx)) (biased imm5)) s

/-- CMPLTI16 rx, imm (41_compare_move_bit_ext_mult.md R243). -/
def execCmplti16 (rx : BitVec 3) (imm5 : BitVec 5) (s : State) : Out :=
  writeFlag (lessThan (s.reg (lowReg rx)) (biased imm5)) s

/-- CMPNEI16 rx, imm (41_compare_move_bit_ext_mult.md R245). -/
def execCmpnei16 (rx : BitVec 3) (imm5 : BitVec 5) (s : State) : Out :=
  writeFlag (differs (s.reg (lowReg rx)) (plainImm imm5)) s

/-- TSTNBZ16 rx (41_compare_move_bit_ext_mult.md R247). -/
def execTstnbz16 (rx : BitVec 4) (s : State) : Out :=
  writeFlag (noZeroByte (s.reg rx)) s

end Sys2Proof.Machine
end

