-- ==== Sys2Proof/Machine/LoadStore.lean ====
section
/-! DEFINITION. The immediate-offset loads and stores (43_load_store.md sections 2 and 3). -/

namespace Sys2Proof.Machine

/-- LD16.B rz, (rx, disp) (43_load_store.md R300). -/
def execLd16b (rz rx : BitVec 3) (imm5 : BitVec 5) (s : State) : Out :=
  loadTo (lowReg rz) .byte (s.reg (lowReg rx) + plainImm imm5) 2 s

/-- LD32.B rz, (rx, disp) (43_load_store.md R301). -/
def execLd32b (rz rx : BitVec 4) (imm12 : BitVec 12) (s : State) : Out :=
  loadTo rz .byte (s.reg rx + plainImm imm12) 4 s

/-- ST16.B rz, (rx, disp) (43_load_store.md R310). -/
def execSt16b (rz rx : BitVec 3) (imm5 : BitVec 5) (s : State) : Out :=
  storeFrom (s.reg (lowReg rz)) .byte (s.reg (lowReg rx) + plainImm imm5) 2 s

/-- ST32.B rz, (rx, disp) (43_load_store.md R311). -/
def execSt32b (rz rx : BitVec 4) (imm12 : BitVec 12) (s : State) : Out :=
  storeFrom (s.reg rz) .byte (s.reg rx + plainImm imm12) 4 s

/-- LD16.H rz, (rx, disp) (43_load_store.md R302). -/
def execLd16h (rz rx : BitVec 3) (imm5 : BitVec 5) (s : State) : Out :=
  loadTo (lowReg rz) .half (s.reg (lowReg rx) + scaled2 imm5) 2 s

/-- LD32.H rz, (rx, disp) (43_load_store.md R303). -/
def execLd32h (rz rx : BitVec 4) (imm12 : BitVec 12) (s : State) : Out :=
  loadTo rz .half (s.reg rx + scaled2 imm12) 4 s

/-- ST16.H rz, (rx, disp) (43_load_store.md R312). -/
def execSt16h (rz rx : BitVec 3) (imm5 : BitVec 5) (s : State) : Out :=
  storeFrom (s.reg (lowReg rz)) .half (s.reg (lowReg rx) + scaled2 imm5) 2 s

/-- ST32.H rz, (rx, disp) (43_load_store.md R313). -/
def execSt32h (rz rx : BitVec 4) (imm12 : BitVec 12) (s : State) : Out :=
  storeFrom (s.reg rz) .half (s.reg rx + scaled2 imm12) 4 s

/-- LD16.W rz, (rx, disp) (43_load_store.md R304). -/
def execLd16w (rz rx : BitVec 3) (imm5 : BitVec 5) (s : State) : Out :=
  loadTo (lowReg rz) .word (s.reg (lowReg rx) + scaled4 imm5) 2 s

/-- LD16.W rz, (sp, disp) (43_load_store.md R305). -/
def execLd16wSp (rz imm3 : BitVec 3) (imm5 : BitVec 5) (s : State) : Out :=
  loadTo (lowReg rz) .word (s.reg sp + scaled4 (imm3 ++ imm5)) 2 s

/-- LD32.W rz, (rx, disp) (43_load_store.md R306). -/
def execLd32w (rz rx : BitVec 4) (imm12 : BitVec 12) (s : State) : Out :=
  loadTo rz .word (s.reg rx + scaled4 imm12) 4 s

/-- ST16.W rz, (rx, disp) (43_load_store.md R314). -/
def execSt16w (rz rx : BitVec 3) (imm5 : BitVec 5) (s : State) : Out :=
  storeFrom (s.reg (lowReg rz)) .word (s.reg (lowReg rx) + scaled4 imm5) 2 s

/-- ST16.W rz, (sp, disp) (43_load_store.md R315). -/
def execSt16wSp (rz imm3 : BitVec 3) (imm5 : BitVec 5) (s : State) : Out :=
  storeFrom (s.reg (lowReg rz)) .word (s.reg sp + scaled4 (imm3 ++ imm5)) 2 s

/-- ST32.W rz, (rx, disp) (43_load_store.md R316). -/
def execSt32w (rz rx : BitVec 4) (imm12 : BitVec 12) (s : State) : Out :=
  storeFrom (s.reg rz) .word (s.reg rx + scaled4 imm12) 4 s

end Sys2Proof.Machine
end

