-- ==== Sys2Proof/Machine/Logic.lean ====
section
/-! DEFINITION. The logic instructions (40_arith_logic_shift.md section 3). -/

namespace Sys2Proof.Machine

/-- AND16 rz, rx (40_arith_logic_shift.md R215). -/
def execAnd16 (rz rx : BitVec 4) (s : State) : Out :=
  writeBack rz (s.reg rz &&& s.reg rx) 2 s

/-- ANDN16 rz, rx (40_arith_logic_shift.md R216). -/
def execAndn16 (rz rx : BitVec 4) (s : State) : Out :=
  writeBack rz (s.reg rz &&& ~~~(s.reg rx)) 2 s

/-- OR16 rz, rx (40_arith_logic_shift.md R217). -/
def execOr16 (rz rx : BitVec 4) (s : State) : Out :=
  writeBack rz (s.reg rz ||| s.reg rx) 2 s

/-- XOR16 rz, rx (40_arith_logic_shift.md R218). -/
def execXor16 (rz rx : BitVec 4) (s : State) : Out :=
  writeBack rz (s.reg rz ^^^ s.reg rx) 2 s

/-- NOR16 rz, rx (40_arith_logic_shift.md R219), NOT16 where rz = rx (R220). -/
def execNor16 (rz rx : BitVec 4) (s : State) : Out :=
  writeBack rz (~~~(s.reg rz ||| s.reg rx)) 2 s

end Sys2Proof.Machine
end

