-- ==== Sys2Proof/Machine/Privileged.lean ====
section
/-! DEFINITION. The privileged instructions (44_privileged_special.md sections 1 to 4). -/

namespace Sys2Proof.Machine

/-- MFCR32 rz, cr<x, sel> (44_privileged_special.md R343). -/
def execMfcr32 (rz : BitVec 4) (crx sel : BitVec 5) (s : State) : Out :=
  privileged s (writeBack rz (readCr s crx sel) 4 s)

/-- MTCR32 rx, cr<z, sel>; the software-reset key resets with PSR.EE = 1 and is an unrecoverable error with PSR.EE = 0
(44_privileged_special.md R344, 10_state.md R74). -/
def execMtcr32 (rx : BitVec 4) (crz sel : BitVec 5) (s : State) : Out :=
  privileged s <|
    if isSoftResetWrite crz sel (s.reg rx) s then
      if s.psr.ee then resetMachine s else takeException .unrecoverable s
    else finish ((writeCr crz sel (s.reg rx) s).map fun t => t.advance 4)

/-- PSRCLR32: IMM5[3] clears EE, IMM5[2] clears IE; the other bits select nothing (44_privileged_special.md R345). -/
def execPsrclr32 (imm5 : BitVec 5) (s : State) : Out :=
  privileged s <| .next <|
    State.advance { s with psr := { s.psr with
      ee := s.psr.ee && !imm5.getLsbD 3
      ie := s.psr.ie && !imm5.getLsbD 2 } } 4

/-- PSRSET32: IMM5[3] sets EE, IMM5[2] sets IE; the other bits select nothing (44_privileged_special.md R346). -/
def execPsrset32 (imm5 : BitVec 5) (s : State) : Out :=
  privileged s <| .next <|
    State.advance { s with psr := { s.psr with
      ee := s.psr.ee || imm5.getLsbD 3
      ie := s.psr.ie || imm5.getLsbD 2 } } 4

/-- RTE32 (44_privileged_special.md R347). -/
def execRte32 (s : State) : Out :=
  privileged s (.next (returnFromException s))

/-- NIE16 stores EPC at SP-4, then EPSR at SP-8 (44_privileged_special.md R348). -/
def nieSlots (s : State) : List (Word × Word) :=
  [(s.reg sp - 4, s.epc), (s.reg sp - 8, s.epsr.image)]

/-- NIR16 reads EPSR at SP and EPC at SP+4 (44_privileged_special.md R349). -/
def nestRestore (s : State) (vs : List Word) : State :=
  match vs with
  | [psrImage, pcImage] => { s with epsr := Psr.ofImage psrImage, epc := pcImage }
  | _ => s

/-- NIE16 (44_privileged_special.md R348). -/
def execNie16 (s : State) : Out :=
  privileged s <| finish <|
    (alignedSp s).andThen fun _ =>
      (storeWords s (nieSlots s)).map fun t =>
        State.advance { t.setReg sp (s.reg sp - 8) with psr := { t.psr with ee := true, ie := true } } 2

/-- NIR16 (44_privileged_special.md R349). -/
def execNir16 (s : State) : Out :=
  privileged s <| finish <|
    (alignedSp s).andThen fun _ =>
      (loadWords s (s.reg sp) 2).map fun vs =>
        returnFromException ((nestRestore s vs).setReg sp (s.reg sp + 8))

/-- WAIT32 (44_privileged_special.md R353). -/
def execWait32 (s : State) : Out :=
  privileged s (.next (enterLowPower .wait s))

/-- DOZE32 (44_privileged_special.md R354). -/
def execDoze32 (s : State) : Out :=
  privileged s (.next (enterLowPower .doze s))

/-- STOP32 (44_privileged_special.md R355). -/
def execStop32 (s : State) : Out :=
  privileged s (.next (enterLowPower .stop s))

end Sys2Proof.Machine
end

