-- ==== Sys2Proof/Machine/Shift.lean ====
section
/-! DEFINITION. The shift and rotate instructions (40_arith_logic_shift.md section 4). -/

namespace Sys2Proof.Machine

/-- LSL16 rz, rx (40_arith_logic_shift.md R225). -/
def execLsl16 (rz rx : BitVec 4) (s : State) : Out :=
  writeBack rz (shiftLeft (s.reg rz) (shiftCount (s.reg rx))) 2 s

/-- LSR16 rz, rx (40_arith_logic_shift.md R227). -/
def execLsr16 (rz rx : BitVec 4) (s : State) : Out :=
  writeBack rz (shiftRight (s.reg rz) (shiftCount (s.reg rx))) 2 s

/-- ASR16 rz, rx (40_arith_logic_shift.md R229). -/
def execAsr16 (rz rx : BitVec 4) (s : State) : Out :=
  writeBack rz (shiftArith (s.reg rz) (shiftCount (s.reg rx))) 2 s

/-- ROTL16 rz, rx (40_arith_logic_shift.md R231). -/
def execRotl16 (rz rx : BitVec 4) (s : State) : Out :=
  writeBack rz (rotateLeft (s.reg rz) (shiftCount (s.reg rx))) 2 s

/-- LSLI16 rz, rx, imm5 (40_arith_logic_shift.md R226, R232). -/
def execLsli16 (rz rx : BitVec 3) (imm5 : BitVec 5) (s : State) : Out :=
  writeBack (lowReg rz) (s.reg (lowReg rx) <<< imm5.toNat) 2 s

/-- LSRI16 rz, rx, imm5 (40_arith_logic_shift.md R228, R232). -/
def execLsri16 (rz rx : BitVec 3) (imm5 : BitVec 5) (s : State) : Out :=
  writeBack (lowReg rz) (s.reg (lowReg rx) >>> imm5.toNat) 2 s

/-- ASRI16 rz, rx, imm5 (40_arith_logic_shift.md R230, R232). -/
def execAsri16 (rz rx : BitVec 3) (imm5 : BitVec 5) (s : State) : Out :=
  writeBack (lowReg rz) ((s.reg (lowReg rx)).sshiftRight imm5.toNat) 2 s

end Sys2Proof.Machine
end

