-- ==== Sys2Proof/Machine/Special.lean ====
section
/-! DEFINITION. The special-function instructions (44_privileged_special.md section 4). -/

namespace Sys2Proof.Machine

/-- IDLY32 n: arms the counter and clears C, or is ignored inside a running sequence; the counting itself is the step's
(44_privileged_special.md R352). -/
def execIdly32 (imm5 : BitVec 5) (s : State) : Out :=
  .next <|
    if s.idlyCnt = 0 then State.advance { s.setC false with idlyCnt := idlyCount imm5 } 4 else s.advance 4

/-- SYNC32: nothing is outstanding when it executes (44_privileged_special.md R356, 20_memory.md R131). -/
def execSync32 (s : State) : Out :=
  .next (s.advance 4)

/-- TRAP32 n (44_privileged_special.md R357). -/
def execTrap32 (n : BitVec 2) (s : State) : Out :=
  takeException (.trap n) s

/-- BKPT16: the breakpoint exception, the debug unit being absent (44_privileged_special.md R358). -/
def execBkpt16 (s : State) : Out :=
  takeException .breakpoint s

end Sys2Proof.Machine
end

