-- ==== Sys2Proof/Machine/Stack.lean ====
section
/-! DEFINITION. The multi-register stack instructions (43_load_store.md section 4). -/

namespace Sys2Proof.Machine

/-- PUSH16 reglist, LIST1 = 0 to 7 (43_load_store.md R321). -/
def execPush16 (r15 : BitVec 1) (list1 : BitVec 3) (s : State) : Out :=
  finish ((pushRegs (regList r15 list1.toNat) s).map fun t => t.advance 2)

/-- PUSH16 reglist, LIST1 = 8: r4 to r11 (43_load_store.md R321). -/
def execPush16List8 (r15 : BitVec 1) (s : State) : Out :=
  finish ((pushRegs (regList r15 8) s).map fun t => t.advance 2)

/-- POP16 reglist, LIST1 = 0 to 7: returns to R15 whether or not it is in the list (43_load_store.md R322). -/
def execPop16 (r15 : BitVec 1) (list1 : BitVec 3) (s : State) : Out :=
  finish ((popRegs (regList r15 list1.toNat) s).map fun t => t.jump (evenAddr (t.reg lr)))

/-- POP16 reglist, LIST1 = 8: r4 to r11 (43_load_store.md R322). -/
def execPop16List8 (r15 : BitVec 1) (s : State) : Out :=
  finish ((popRegs (regList r15 8) s).map fun t => t.jump (evenAddr (t.reg lr)))

/-- IPUSH16: R0 to R3, R12, R13 below SP (43_load_store.md R324). -/
def execIpush16 (s : State) : Out :=
  finish ((pushRegs interruptRegs s).map fun t => t.advance 2)

/-- IPOP16: R0 to R3, R12, R13 from SP (43_load_store.md R325). -/
def execIpop16 (s : State) : Out :=
  finish ((popRegs interruptRegs s).map fun t => t.advance 2)

end Sys2Proof.Machine
end

