-- ==== Sys2Proof/Machine/Transfer.lean ====
section
/-! DEFINITION. The data-transfer instructions (41_compare_move_bit_ext_mult.md section 3). -/

namespace Sys2Proof.Machine

/-- MOV16 rz, rx (41_compare_move_bit_ext_mult.md R250). -/
def execMov16 (rz rx : BitVec 4) (s : State) : Out :=
  writeBack rz (s.reg rx) 2 s

/-- MOVI16 rz, imm8 (41_compare_move_bit_ext_mult.md R251). -/
def execMovi16 (rz : BitVec 3) (imm8 : BitVec 8) (s : State) : Out :=
  writeBack (lowReg rz) (plainImm imm8) 2 s

/-- MVCV16 rz: bit 0 is the complement of C (41_compare_move_bit_ext_mult.md R252). -/
def execMvcv16 (rz : BitVec 4) (s : State) : Out :=
  writeBack rz (if s.psr.c then 0 else 1) 2 s

/-- LRW16 rz, label (41_compare_move_bit_ext_mult.md R262). -/
def execLrw16 (rz : BitVec 3) (imm1 : BitVec 1) (imm2 : BitVec 2) (imm5 : BitVec 5) (s : State) : Out :=
  loadTo (lowReg rz) .word (literalAddr s.pc (lrwOffset imm1 imm2 imm5)) 2 s

/-- LRW32 rz, label (41_compare_move_bit_ext_mult.md R263). -/
def execLrw32 (rz : BitVec 4) (imm16 : BitVec 16) (s : State) : Out :=
  loadTo rz .word (literalAddr s.pc imm16) 4 s

end Sys2Proof.Machine
end

