-- ==== Sys2Proof/Machine/Dispatch.lean ====
section
/-! DEFINITION. The dispatch: one arm per constructor of Instr, in the opcode table's order, each the direct call of its
meaning. -/

namespace Sys2Proof.Machine

def exec (i : Instr) (s : State) : Host.Outcome State Fault Refusal :=
  match i with
  | .bkpt16 => Sys2Proof.Machine.execBkpt16 s
  | .lrw16 rz imm1 imm2 imm5 => Sys2Proof.Machine.execLrw16 rz imm1 imm2 imm5 s
  | .br16 offset => Sys2Proof.Machine.execBr16 offset s
  | .bt16 offset => Sys2Proof.Machine.execBt16 offset s
  | .bf16 offset => Sys2Proof.Machine.execBf16 offset s
  | .addi16SpSp imm2 imm5 => Sys2Proof.Machine.execAddi16SpSp imm2 imm5 s
  | .subi16SpSp imm2 imm5 => Sys2Proof.Machine.execSubi16SpSp imm2 imm5 s
  | .nie16 => Sys2Proof.Machine.execNie16 s
  | .nir16 => Sys2Proof.Machine.execNir16 s
  | .ipush16 => Sys2Proof.Machine.execIpush16 s
  | .ipop16 => Sys2Proof.Machine.execIpop16 s
  | .pop16 r15 list1 => Sys2Proof.Machine.execPop16 r15 list1 s
  | .pop16List8 r15 => Sys2Proof.Machine.execPop16List8 r15 s
  | .push16 r15 list1 => Sys2Proof.Machine.execPush16 r15 list1 s
  | .push16List8 r15 => Sys2Proof.Machine.execPush16List8 r15 s
  | .addi16RzSp rz imm8 => Sys2Proof.Machine.execAddi16RzSp rz imm8 s
  | .addi16Oimm8 rz imm8 => Sys2Proof.Machine.execAddi16Oimm8 rz imm8 s
  | .subi16Oimm8 rz imm8 => Sys2Proof.Machine.execSubi16Oimm8 rz imm8 s
  | .movi16 rz imm8 => Sys2Proof.Machine.execMovi16 rz imm8 s
  | .cmphsi16 rx imm5 => Sys2Proof.Machine.execCmphsi16 rx imm5 s
  | .cmplti16 rx imm5 => Sys2Proof.Machine.execCmplti16 rx imm5 s
  | .cmpnei16 rx imm5 => Sys2Proof.Machine.execCmpnei16 rx imm5 s
  | .bclri16 rz imm5 => Sys2Proof.Machine.execBclri16 rz imm5 s
  | .bseti16 rz imm5 => Sys2Proof.Machine.execBseti16 rz imm5 s
  | .btsti16 rx imm5 => Sys2Proof.Machine.execBtsti16 rx imm5 s
  | .lsli16 rz rx imm5 => Sys2Proof.Machine.execLsli16 rz rx imm5 s
  | .lsri16 rz rx imm5 => Sys2Proof.Machine.execLsri16 rz rx imm5 s
  | .asri16 rz rx imm5 => Sys2Proof.Machine.execAsri16 rz rx imm5 s
  | .addu16RzRxRy rz rx ry => Sys2Proof.Machine.execAddu16RzRxRy rz rx ry s
  | .subu16RzRxRy rz rx ry => Sys2Proof.Machine.execSubu16RzRxRy rz rx ry s
  | .addi16Oimm3 rz rx imm3 => Sys2Proof.Machine.execAddi16Oimm3 rz rx imm3 s
  | .subi16Oimm3 rz rx imm3 => Sys2Proof.Machine.execSubi16Oimm3 rz rx imm3 s
  | .addu16RzRx rz rx => Sys2Proof.Machine.execAddu16RzRx rz rx s
  | .addc16 rz rx => Sys2Proof.Machine.execAddc16 rz rx s
  | .subu16RzRx rz rx => Sys2Proof.Machine.execSubu16RzRx rz rx s
  | .subc16 rz rx => Sys2Proof.Machine.execSubc16 rz rx s
  | .cmphs16 rx ry => Sys2Proof.Machine.execCmphs16 rx ry s
  | .cmplt16 rx ry => Sys2Proof.Machine.execCmplt16 rx ry s
  | .cmpne16 rx ry => Sys2Proof.Machine.execCmpne16 rx ry s
  | .mvcv16 rz => Sys2Proof.Machine.execMvcv16 rz s
  | .and16 rz rx => Sys2Proof.Machine.execAnd16 rz rx s
  | .andn16 rz rx => Sys2Proof.Machine.execAndn16 rz rx s
  | .tst16 rx ry => Sys2Proof.Machine.execTst16 rx ry s
  | .tstnbz16 rx => Sys2Proof.Machine.execTstnbz16 rx s
  | .or16 rz rx => Sys2Proof.Machine.execOr16 rz rx s
  | .xor16 rz rx => Sys2Proof.Machine.execXor16 rz rx s
  | .nor16 rz rx => Sys2Proof.Machine.execNor16 rz rx s
  | .mov16 rz rx => Sys2Proof.Machine.execMov16 rz rx s
  | .lsl16 rz rx => Sys2Proof.Machine.execLsl16 rz rx s
  | .lsr16 rz rx => Sys2Proof.Machine.execLsr16 rz rx s
  | .asr16 rz rx => Sys2Proof.Machine.execAsr16 rz rx s
  | .rotl16 rz rx => Sys2Proof.Machine.execRotl16 rz rx s
  | .zextb16 rz rx => Sys2Proof.Machine.execZextb16 rz rx s
  | .zexth16 rz rx => Sys2Proof.Machine.execZexth16 rz rx s
  | .sextb16 rz rx => Sys2Proof.Machine.execSextb16 rz rx s
  | .sexth16 rz rx => Sys2Proof.Machine.execSexth16 rz rx s
  | .jmp16 rx => Sys2Proof.Machine.execJmp16 rx s
  | .jsr16 rx => Sys2Proof.Machine.execJsr16 rx s
  | .mult16 rz rx => Sys2Proof.Machine.execMult16 rz rx s
  | .ld16b rz rx imm5 => Sys2Proof.Machine.execLd16b rz rx imm5 s
  | .ld16h rz rx imm5 => Sys2Proof.Machine.execLd16h rz rx imm5 s
  | .ld16w rz rx imm5 => Sys2Proof.Machine.execLd16w rz rx imm5 s
  | .ld16wSp rz imm3 imm5 => Sys2Proof.Machine.execLd16wSp rz imm3 imm5 s
  | .st16b rz rx imm5 => Sys2Proof.Machine.execSt16b rz rx imm5 s
  | .st16h rz rx imm5 => Sys2Proof.Machine.execSt16h rz rx imm5 s
  | .st16w rz rx imm5 => Sys2Proof.Machine.execSt16w rz rx imm5 s
  | .st16wSp rz imm3 imm5 => Sys2Proof.Machine.execSt16wSp rz imm3 imm5 s
  | .sync32 => Sys2Proof.Machine.execSync32 s
  | .idly32 imm5 => Sys2Proof.Machine.execIdly32 imm5 s
  | .trap32 n => Sys2Proof.Machine.execTrap32 n s
  | .rte32 => Sys2Proof.Machine.execRte32 s
  | .stop32 => Sys2Proof.Machine.execStop32 s
  | .wait32 => Sys2Proof.Machine.execWait32 s
  | .doze32 => Sys2Proof.Machine.execDoze32 s
  | .mfcr32 rz crx sel => Sys2Proof.Machine.execMfcr32 rz crx sel s
  | .mtcr32 rx crz sel => Sys2Proof.Machine.execMtcr32 rx crz sel s
  | .psrclr32 imm5 => Sys2Proof.Machine.execPsrclr32 imm5 s
  | .psrset32 imm5 => Sys2Proof.Machine.execPsrset32 imm5 s
  | .ld32b rz rx imm12 => Sys2Proof.Machine.execLd32b rz rx imm12 s
  | .ld32h rz rx imm12 => Sys2Proof.Machine.execLd32h rz rx imm12 s
  | .ld32w rz rx imm12 => Sys2Proof.Machine.execLd32w rz rx imm12 s
  | .st32b rz rx imm12 => Sys2Proof.Machine.execSt32b rz rx imm12 s
  | .st32h rz rx imm12 => Sys2Proof.Machine.execSt32h rz rx imm12 s
  | .st32w rz rx imm12 => Sys2Proof.Machine.execSt32w rz rx imm12 s
  | .bsr32 offset => Sys2Proof.Machine.execBsr32 offset s
  | .br32 offset => Sys2Proof.Machine.execBr32 offset s
  | .lrw32 rz imm16 => Sys2Proof.Machine.execLrw32 rz imm16 s

end Sys2Proof.Machine
end

