-- ==== Sys2Proof/Machine/Step.lean ====
section
/-! DEFINITION. The step: one instruction boundary and the instruction after it, if one starts. -/

namespace Sys2Proof.Machine

/-- One step (30_encoding.md R153, 60_exceptions.md R441). -/
def step (s : State) : Host.Outcome State Fault Refusal :=
  match boundaryPlan s.sample s.dropInput with
  | .stop o => o
  | .run i t => retire t.idlyCnt (exec i t)

/-- The state with an instruction stored where the step fetches, and nothing prefetched there (log 29). -/
def State.withFetchWord (s : State) (nbits w : Nat) : State :=
  { s.setMem (placeInstr s nbits w) with window := [] }

end Sys2Proof.Machine
end

