-- ==== Sys2Proof/Safety.lean ====
section
/-! DEFINITION. What statements about the machine are made of: the invariant every step keeps, the frames of instructions, what
an exception entry does, what user mode leaves alone, and runs of several steps. -/

namespace Sys2Proof.Machine

/-- What holds of every state of the machine: the hard-wired bits read as the spec says. -/
structure State.Inv (s : State) : Prop where
  /-- Bit 0 of the PC is always 0 (10_state.md R37). -/
  pcEven : s.pc.getLsbD 0 = false
  /-- The memory is in canonical form. -/
  memWf : s.mem.wf = true
  /-- The IDLY counter is at most 32 (10_state.md R85). -/
  idlyBound : s.idlyCnt ≤ 32
  /-- CCR.MP is 00 or 01 (10_state.md R63). -/
  mpLegal : s.mp.getLsbD 1 = false
  /-- CCR.MP reads 0 where there is no MPU (10_state.md R63). -/
  mpAbsent : s.cfg.mpuRegions = 0 → s.mp = 0
  /-- CAPR bits of absent regions read 0 (10_state.md R64). -/
  caprMasked : s.capr &&& ~~~(caprMask s.cfg.mpuRegions) = 0
  /-- Region registers that do not exist hold nothing (10_state.md R68). -/
  pacrAbsent : ∀ n : Fin 8, s.cfg.mpuRegions.val ≤ n.val → s.pacr[n.val] = Pacr.zero
  /-- PRSR reads 0 where there is no MPU (10_state.md R44). -/
  ridAbsent : s.cfg.mpuRegions = 0 → s.rid = 0
  /-- CHR.IAE reads 0 without the nesting instructions (10_state.md R75). -/
  iaeAbsent : s.cfg.hasNestInt = false → s.iae = false
  /-- GCR holds nothing where it is absent (10_state.md R57). -/
  gcrAbsent : s.cfg.gcrGsrPresent = false → s.gcr = 0
  /-- The window holds no more halfwords than the configuration prefetches (20_memory.md R133). -/
  windowBound : s.window.length ≤ s.cfg.ifetchPrefetch.val
  /-- An IDLY sequence is open only while instructions execute (44_privileged_special.md R353). -/
  idlyRunning : s.runState ≠ .running → s.idlyCnt = 0
  /-- A low-power state is entered from supervisor mode only (44_privileged_special.md R341). -/
  stoppedSuper : s.runState ≠ .running → s.psr.s = true

/-- Everything of a state but the general registers, the PC, C and memory is the same; the prefetched halfwords too, so that
the instruction is no control transfer (20_memory.md R133). -/
structure SameSystem (s t : State) : Prop where
  cfg : t.cfg = s.cfg
  psr : { t.psr with c := s.psr.c } = s.psr
  epsr : t.epsr = s.epsr
  epc : t.epc = s.epc
  gcr : t.gcr = s.gcr
  mp : t.mp = s.mp
  capr : t.capr = s.capr
  pacr : t.pacr = s.pacr
  rid : t.rid = s.rid
  iae : t.iae = s.iae
  idlyCnt : t.idlyCnt = s.idlyCnt
  runState : t.runState = s.runState
  window : t.window = s.window
  inputs : t.inputs = s.inputs
  free : t.free = s.free

/-- The instruction answers a next state that has the property. -/
def Completes (i : Instr) (s : State) (P : State → Prop) : Prop := ∃ t, exec i s = .next t ∧ P t

/-- Register `n` holds `v` (nothing, where it is not implemented, 10_state.md R30), C is `c`, the pc is `len` bytes further,
and every other register, every byte of memory and everything else is as before. -/
structure WritesReg (n : Reg) (v : Word) (c : Bool) (len : Word) (s t : State) : Prop where
  value : t.reg n = if implementedReg n then v else 0
  others : ∀ k : Reg, k ≠ n → t.reg k = s.reg k
  flag : t.psr.c = c
  pc : t.pc = s.pc + len
  mem : ∀ a : Word, t.mem.read a = s.mem.read a
  system : SameSystem s t

/-- C is `c`, the pc is `a`, and every register, every byte of memory and everything else is as before. -/
structure WritesFlagAndPc (c : Bool) (a : Word) (s t : State) : Prop where
  flag : t.psr.c = c
  pc : t.pc = a
  regs : ∀ k : Reg, t.reg k = s.reg k
  mem : ∀ a : Word, t.mem.read a = s.mem.read a
  system : SameSystem s t

/-- Byte `k` in memory of a datum of `n` bytes, by the byte order (20_memory.md R101). -/
def datumByte (e : Endian) (n : Nat) (v : Word) (k : Nat) : Byte :=
  match e with
  | .little => v.extractLsb' (8 * k) 8
  | .big => v.extractLsb' (8 * (n - 1 - k)) 8

/-- The `n` bytes at `a` are those of the datum `v`, which has no bit above them (20_memory.md R101, R111). -/
def HoldsDatum (s : State) (a : Word) (n : Nat) (v : Word) : Prop :=
  v.toNat < 2 ^ (8 * n) ∧ ∀ k < n, s.mem.read (a + BitVec.ofNat 32 k) = datumByte s.cfg.endian n v k

/-- The `n` bytes at `a` are those of the low part of `v`; every other byte of memory is as before. -/
structure StoresAt (a : Word) (n : Nat) (v : Word) (s t : State) : Prop where
  stored : ∀ k < n, t.mem.read (a + BitVec.ofNat 32 k) = datumByte s.cfg.endian n v k
  outside : ∀ x : Word, n ≤ (x - a).toNat → t.mem.read x = s.mem.read x

/-- `h` is the halfword that the fetch of number `k` from the pc on, at the address `a`, gives: the prefetched one where the
window of the configuration holds it, else the one memory holds (20_memory.md R112, R133). -/
def FetchGives (s : State) (k : Nat) (a : Word) (h : Half) : Prop :=
  if k < s.cfg.ifetchPrefetch.val ∧ k < s.window.length then s.window[k]? = some h else h = s.mem.readHalf s.cfg.endian a

/-- `w` is the window while an instruction of `n` halfwords executes: the halfwords that follow it, as fetched before it
(20_memory.md R133). -/
def Prefetched (s : State) (n : Nat) (w : List Half) : Prop :=
  w.length = s.cfg.ifetchPrefetch.val ∧
    ∀ (k : Nat) (h : Half), w[k]? = some h → FetchGives s (n + k) (s.pc + BitVec.ofNat 32 (2 * (n + k))) h

/-- The address of the word of vector `v` (60_exceptions.md R400). -/
def vectorAddr (v : BitVec 8) : Word := BitVec.ofNat 32 (4 * v.toNat)

/-- The word of vector `v` may be fetched. -/
def VectorReadable (s : State) (v : BitVec 8) : Prop := accessVerdict s .fetch true (vectorAddr v) 4 = .permit

/-- The state after the exception or interrupt of vector `v` is entered from `s` with the return address `ret`
(60_exceptions.md R410, R411): everything it writes, and everything it leaves. -/
structure TookException (v : BitVec 8) (isIrq : Bool) (ret : Word) (s t : State) : Prop where
  epsr : t.epsr = { s.psr with c := s.psr.c || (decide (0 < s.idlyCnt) && !isIrq) }
  epc : t.epc = ret
  psr : t.psr = { t.epsr with s := true, vec := v, ee := false, ie := false }
  pc : t.pc = s.mem.readWord s.cfg.endian (vectorAddr v) &&& 0xFFFFFFFE
  idlyCnt : t.idlyCnt = 0
  runState : t.runState = .running
  window : t.window = []
  regs : ∀ k : Reg, t.reg k = s.reg k
  mem : ∀ a : Word, t.mem.read a = s.mem.read a
  cfg : t.cfg = s.cfg
  gcr : t.gcr = s.gcr
  mp : t.mp = s.mp
  capr : t.capr = s.capr
  pacr : t.pacr = s.pacr
  rid : t.rid = s.rid
  iae : t.iae = s.iae
  inputs : t.inputs = s.inputs
  free : t.free = s.free

/-- The vector a synchronous exception is entered with: its own while PSR.EE = 1, else 8 (60_exceptions.md R420). -/
def entryVector (s : State) (v : BitVec 8) : BitVec 8 := if s.psr.ee then v else 8

/-- The outcome is the entry of the synchronous exception with vector `v` at the instruction itself. -/
def Raises (o : Out) (v : BitVec 8) (s : State) : Prop :=
  ∃ t, o = .next t ∧ TookException (entryVector s v) false s.pc s t

/-- The load completes where its address is aligned or PSR.MM clears the low bits and the read is permitted: register `n`
holds the datum at the aligned address, and nothing else changes (20_memory.md R103). -/
def LoadsFrom (i : Instr) (n : Reg) (sz : Size) (a len : Word) (s : State) : Prop :=
  (misaligned sz a = false ∨ s.psr.mm = true) →
  accessVerdict s .read s.psr.s (alignDown sz a) sz.bytes = .permit →
  ∃ v, HoldsDatum s (alignDown sz a) sz.bytes v ∧ Completes i s (WritesReg n v s.psr.c len s)

/-- The store completes where its address is aligned or PSR.MM clears the low bits and the write is permitted: the bytes at
the aligned address are those of `v`, and nothing else changes (20_memory.md R104). -/
def StoresTo (i : Instr) (v : Word) (sz : Size) (a len : Word) (s : State) : Prop :=
  s.mem.wf = true →
  (misaligned sz a = false ∨ s.psr.mm = true) →
  accessVerdict s .write s.psr.s (alignDown sz a) sz.bytes = .permit →
  Completes i s fun t => StoresAt (alignDown sz a) sz.bytes v s t ∧ t.pc = s.pc + len ∧ t.psr.c = s.psr.c ∧
    (∀ k : Reg, t.reg k = s.reg k) ∧ SameSystem s t

/-- The one data access of a load or store: its kind, its size and the address the instruction computes (43_load_store.md
R307, 41_compare_move_bit_ext_mult.md R262, R263). -/
def dataAccess (i : Instr) (s : State) : Option (AccessKind × Size × Word) :=
  match i with
  | .ld16b _ rx imm5 => some (.read, .byte, s.reg (lowReg rx) + plainImm imm5)
  | .ld16h _ rx imm5 => some (.read, .half, s.reg (lowReg rx) + scaled2 imm5)
  | .ld16w _ rx imm5 => some (.read, .word, s.reg (lowReg rx) + scaled4 imm5)
  | .ld16wSp _ imm3 imm5 => some (.read, .word, s.reg sp + scaled4 (imm3 ++ imm5))
  | .ld32b _ rx imm12 => some (.read, .byte, s.reg rx + plainImm imm12)
  | .ld32h _ rx imm12 => some (.read, .half, s.reg rx + scaled2 imm12)
  | .ld32w _ rx imm12 => some (.read, .word, s.reg rx + scaled4 imm12)
  | .st16b _ rx imm5 => some (.write, .byte, s.reg (lowReg rx) + plainImm imm5)
  | .st16h _ rx imm5 => some (.write, .half, s.reg (lowReg rx) + scaled2 imm5)
  | .st16w _ rx imm5 => some (.write, .word, s.reg (lowReg rx) + scaled4 imm5)
  | .st16wSp _ imm3 imm5 => some (.write, .word, s.reg sp + scaled4 (imm3 ++ imm5))
  | .st32b _ rx imm12 => some (.write, .byte, s.reg rx + plainImm imm12)
  | .st32h _ rx imm12 => some (.write, .half, s.reg rx + scaled2 imm12)
  | .st32w _ rx imm12 => some (.write, .word, s.reg rx + scaled4 imm12)
  | .lrw16 _ imm1 imm2 imm5 => some (.read, .word, literalAddr s.pc (lrwOffset imm1 imm2 imm5))
  | .lrw32 _ imm16 => some (.read, .word, literalAddr s.pc imm16)
  | _ => none

/-- The privileged instructions (44_privileged_special.md R341). -/
def isPrivileged : Instr → Bool
  | .mfcr32 _ _ _ => true
  | .mtcr32 _ _ _ => true
  | .psrset32 _ => true
  | .psrclr32 _ => true
  | .rte32 => true
  | .wait32 => true
  | .doze32 => true
  | .stop32 => true
  | .nie16 => true
  | .nir16 => true
  | _ => false

/-- The multi-access instructions (20_memory.md R107). -/
def isMultiAccess : Instr → Bool
  | .push16 _ _ => true
  | .push16List8 _ => true
  | .pop16 _ _ => true
  | .pop16List8 _ => true
  | .ipush16 => true
  | .ipop16 => true
  | .nie16 => true
  | .nir16 => true
  | _ => false

/-- How many words the multi-access loads read from SP upward (43_load_store.md R322, R325, 44_privileged_special.md R349). -/
def stackLoads : Instr → Option Nat
  | .pop16 r15 list1 => some (list1.toNat + r15.toNat)
  | .pop16List8 r15 => some (8 + r15.toNat)
  | .ipop16 => some 6
  | .nir16 => some 2
  | _ => none

/-- The word addresses `a`, `a + 4`, … of `n` words may all be accessed in the current mode. -/
def WordsPermitted (s : State) (kind : AccessKind) (a : Word) (n : Nat) : Prop :=
  ∀ k < n, accessVerdict s kind s.psr.s (a + BitVec.ofNat 32 (4 * k)) 4 = .permit

/-- Only the bytes of the `n` words from `a` on may differ. -/
def MemOnlyWords (a : Word) (n : Nat) (s t : State) : Prop :=
  ∀ x : Word, 4 * n ≤ (x - a).toNat → t.mem.read x = s.mem.read x

/-- The bytes of word number `k` from `a` on are those of `v`. -/
def WordStored (a : Word) (k : Nat) (v : Word) (t : State) : Prop :=
  HoldsDatum t (a + BitVec.ofNat 32 (4 * k)) 4 v

/-- What a reset leaves, as far as 10_state.md R90 gives it (70_reset_and_hazards.md R472): the registers it calls
unspecified are not named here. -/
structure ResetDone (s t : State) : Prop where
  psr : t.psr = { s := true, vec := 0, mm := false, ee := false, ic := false, ie := false, c := false }
  mp : t.mp = 0
  regionsOff : ∀ n : Fin 8, t.pacr[n.val].e = false
  iae : t.iae = false
  idlyCnt : t.idlyCnt = 0
  runState : t.runState = .running
  window : t.window = []
  pc : t.pc = s.mem.readWord s.cfg.endian 0 &&& 0xFFFFFFFE
  mem : t.mem = s.mem
  cfg : t.cfg = s.cfg
  inputs : t.inputs = s.inputs

/-- The region is enabled, has a legal size and holds the address (20_memory.md R121). -/
def RegionMatches (p : Pacr) (a : Word) : Prop :=
  p.e = true ∧ 9 ≤ p.size.toNat ∧ a.toNat / 2 ^ (p.size.toNat + 1) = p.base.toNat * 1024 / 2 ^ (p.size.toNat + 1)

/-- The region is disabled, or has a legal size and does not hold the address. -/
def RegionMisses (p : Pacr) (a : Word) : Prop :=
  p.e = false ∨ (9 ≤ p.size.toNat ∧ a.toNat / 2 ^ (p.size.toNat + 1) ≠ p.base.toNat * 1024 / 2 ^ (p.size.toNat + 1))

/-- One of the `n` bytes at `a` lies in the range. -/
def Touches (r : AddrRange) (a : Word) (n : Nat) : Prop :=
  ∃ k < n, r.first ≤ (a + BitVec.ofNat 32 k).toNat ∧ (a + BitVec.ofNat 32 k).toNat ≤ r.last

/-- The bus answers the access of `n` bytes at `a` with an error (20_memory.md R110). -/
def BusAnswersError (c : Config) (kind : AccessKind) (a : Word) (n : Nat) : Prop :=
  ∃ r ∈ c.busErrors, r.kind = kind ∧ n ∈ r.sizes ∧ Touches r.range a n

/-- The access reaches the window of the tightly-coupled IP registers (20_memory.md R116). -/
def InDeviceWindow (c : Config) (a : Word) (n : Nat) : Prop := ∃ r ∈ c.tcip, Touches r a n

/-- The access permission table with the fetch rules (10_state.md R67, 20_memory.md R122). -/
def PermissionAllows (super : Bool) (kind : AccessKind) (ap : BitVec 2) (x : Bool) : Prop :=
  (if super then ap ≠ 0 else if kind = .write then ap = 3 else ap = 2 ∨ ap = 3) ∧ ¬ (kind = .fetch ∧ x = true)

/-- What a user-mode program cannot reach (44_privileged_special.md R342): every control register and PSR field but C. -/
structure KeepsControl (s t : State) : Prop where
  cfg : t.cfg = s.cfg
  psr : { t.psr with c := s.psr.c } = s.psr
  epsr : t.epsr = s.epsr
  epc : t.epc = s.epc
  gcr : t.gcr = s.gcr
  mp : t.mp = s.mp
  capr : t.capr = s.capr
  pacr : t.pacr = s.pacr
  rid : t.rid = s.rid
  iae : t.iae = s.iae

/-- `n` steps, as long as each gives a next state. -/
def runSteps : Nat → State → Out
  | 0, s => .next s
  | n + 1, s =>
    match step s with
    | .next t => runSteps n t
    | .fault f => .fault f
    | .refused r => .refused r

/-- A run of `n` steps that neither faults nor is refused. -/
def SafeRun (n : Nat) (s : State) : Prop := ∃ t, runSteps n s = .next t

end Sys2Proof.Machine
end

