-- ==== Sys2Proof/Certificates/Slice0/Obligations.lean ====
section
/-! DEFINITION. The statements about the machine, each a proposition left to be proved. Where a statement rests on a choice of
the model or on a decision the spec marks as its own, its docstring names the log entry. -/

open Sys2Proof Sys2Proof.Machine

/-! Encoding -/

/-- Decoding the word of a well-formed instruction gives the instruction back, every operand at every value, and so do its
bytes in the byte order of the configuration, whatever follows them (30_encoding.md R153, R188, 20_memory.md R102). The
encodings of five instructions are from general knowledge (log 8), the byte order inside a halfword is log 37. -/
def Obligations.EncodedInstructionDecodes : Prop :=
  ∀ (c : Config) (i : Instr), i.wellFormed c = true →
    decodeWord c (encode i) = .ok i ∧
    ∀ rest : List Byte, decode c ((encode i).bytes c.endian ++ rest) = .ok (i, rest)

/-- A word that decodes is the encoding of what it decodes to, so that no bit of it is ignored (30_encoding.md R153, R188);
without the second JSR16 pattern (R190). That register fields 16 to 31, other values of the fixed fields, absent nesting
instructions and LIST1 9 to 15 do not decode are decisions the spec marks as its own, D24, D25, D26 and D27 (R163, R184,
R187, 43_load_store.md R320; log 28). -/
def Obligations.DecodedWordIsItsEncoding : Prop :=
  ∀ (c : Config) (w : InstrWord) (i : Instr), c.jsr16Alt = false → decodeWord c w = .ok i →
    encode i = w ∧ i.wellFormed c = true

/-- No word but 0x0000 matches two rows of the opcode list (30_encoding.md R153, R185). -/
def Obligations.NoWordMatchesTwoRows : Prop :=
  (∀ w : Half, w ≠ 0 → (rows16.filter fun r => r.hits w).length ≤ 1) ∧
  (∀ w : Word, (rows32.filter fun r => r.hits w).length ≤ 1)

/-- A general-register field of a 32-bit word that holds 16 to 31 makes it unimplemented: LD32 and ST32 (both fields), LRW32,
MFCR32, MTCR32. A decision the spec marks as its own (30_encoding.md R163, 92_eei_decisions.md D24; log 28). -/
def Obligations.RegisterFieldAbove15IsIllegal : Prop :=
  ∀ (c : Config) (w : Word),
    (((w.extractLsb' 26 6 = 0b110110#6 ∨ w.extractLsb' 26 6 = 0b110111#6) ∧
        (w.getLsbD 25 = true ∨ w.getLsbD 20 = true)) ∨
      (w.extractLsb' 21 11 = 0b11101010100#11 ∧ w.getLsbD 20 = true) ∨
      (w.extractLsb' 26 6 = 0b110000#6 ∧ w.extractLsb' 5 11 = 0b01100000001#11 ∧ w.getLsbD 4 = true) ∨
      (w.extractLsb' 26 6 = 0b110000#6 ∧ w.extractLsb' 5 11 = 0b01100100001#11 ∧ w.getLsbD 20 = true)) →
    decodeWord c (.full w) = .error (.unimplemented32 w)

/-- Words that the spec's examples print decode to the instructions it gives them. -/
def Obligations.ExampleWordsDecode : Prop :=
  decodeWord .standard (.half 0x6048#16) = .ok (.addu16RzRx 1 2) ∧
  decodeWord .standard (.half 0x22FF#16) = .ok (.addi16Oimm8 2 255) ∧
  decodeWord .standard (.half 0x4224#16) = .ok (.lsli16 1 2 4) ∧
  decodeWord .standard (.half 0x6485#16) = .ok (.cmplt16 1 2) ∧
  decodeWord .standard (.half 0x033F#16) = .ok (.lrw16 1 0 3 31) ∧
  decodeWord .standard (.half 0x14D4#16) = .ok (.push16 1 4) ∧
  decodeWord .standard (.half 0x783C#16) = .ok (.jmp16 15) ∧
  decodeWord .standard (.full 0xD8220FFF#32) = .ok (.ld32b 1 2 4095) ∧
  decodeWord .standard (.full 0xE3FFFFFF#32) = .ok (.bsr32 0x3FFFFFF) ∧
  decodeWord .standard (.full 0xC003643F#32) = .ok (.mtcr32 3 31 0)

/-! The step -/

/-- When the halfwords at the pc may be fetched and decode to an instruction, and no event is presented, the step is `exec`
of it in the state whose sample is taken and whose window holds the halfwords after the instruction, with one subtracted
from an IDLY counter that was running (30_encoding.md R153, 44_privileged_special.md R352). A fetch reads memory, but for a
halfword of the window, which was read before an instruction preceding it; with IFETCH_PREFETCH_HALFWORDS = 0 it always
reads memory (20_memory.md R112, R133; D23, log 22). With CHR.IAE = 1 the model does not run (10_state.md R75, log 12). -/
def Obligations.StepRunsDecodedInstruction : Prop :=
  ∀ (s : State) (i : Instr) (h0 h1 : Half) (rest : List Byte),
    s.cfg.supported = true → s.sample = .idle → s.runState = .running → s.iae = false →
    FetchGives s 0 s.pc h0 → FetchGives s 1 (s.pc + 2) h1 → accessVerdict s .fetch s.psr.s s.pc 2 = .permit →
    (isLong h0 = true → accessVerdict s .fetch s.psr.s (s.pc + 2) 2 = .permit) →
    decode s.cfg (halfBytes s.cfg.endian h0 ++ halfBytes s.cfg.endian h1) = .ok (i, rest) →
    ∃ w, Prefetched s ((encode i).length / 2) w ∧
      (∀ t, exec i { s.dropInput with window := w } = .next t →
        step s = .next { t with idlyCnt := if s.idlyCnt = 0 then t.idlyCnt else t.idlyCnt - 1 }) ∧
      (∀ f, exec i { s.dropInput with window := w } = .fault f → step s = .fault f) ∧
      (∀ r, exec i { s.dropInput with window := w } = .refused r → step s = .refused r)

/-- Halfwords at the pc that decode to nothing raise the illegal instruction exception, vector 4, in either mode
(60_exceptions.md R404; the halfwords fetched are those of R112 and R133, log 22). Which words decode to nothing rests on
the decisions D24 to D27 (log 28). Vector 8 while EE = 0 is 60_exceptions.md R420; C set before PSR is saved in an IDLY
sequence is decision D32 (log 25). Nothing is prefetched after the entry (20_memory.md R133, D23, log 22). -/
def Obligations.UndecodableWordIsIllegalInstruction : Prop :=
  ∀ (s : State) (e : DecodeError) (h0 h1 : Half),
    s.cfg.supported = true → s.sample = .idle → s.runState = .running → s.iae = false →
    FetchGives s 0 s.pc h0 → FetchGives s 1 (s.pc + 2) h1 → accessVerdict s .fetch s.psr.s s.pc 2 = .permit →
    (isLong h0 = true → accessVerdict s .fetch s.psr.s (s.pc + 2) 2 = .permit) →
    decode s.cfg (halfBytes s.cfg.endian h0 ++ halfBytes s.cfg.endian h1) = .error e →
    VectorReadable s (entryVector s 4) →
    Raises (step s) 4 s.dropInput

/-- A fetch that is denied, on the first halfword or on the second, raises the access error exception, vector 2, with EPC
the address of the first halfword (20_memory.md R112, 60_exceptions.md R405, R410); that a prefetched halfword is checked
when it is executed is log 22. Vector 8 while EE = 0 is 60_exceptions.md R420; C set before PSR is saved in an IDLY sequence
is decision D32 (log 25). Nothing is prefetched after the entry (20_memory.md R133, D23, log 22). -/
def Obligations.DeniedFetchIsAccessError : Prop :=
  ∀ (s : State) (h0 : Half),
    s.cfg.supported = true → s.sample = .idle → s.runState = .running → s.iae = false → FetchGives s 0 s.pc h0 →
    (accessVerdict s .fetch s.psr.s s.pc 2 = .deny ∨
      (accessVerdict s .fetch s.psr.s s.pc 2 = .permit ∧ isLong h0 = true ∧
        accessVerdict s .fetch s.psr.s (s.pc + 2) 2 = .deny)) →
    VectorReadable s (entryVector s 2) →
    Raises (step s) 2 s.dropInput

/-- An interrupt request with IE = 1, EE = 1 and no IDLY sequence is entered with its own vector and EPC the address of the
next instruction, from any run state but the terminal one (60_exceptions.md R432, R460). That it goes before the fetch is
decision D40 (log 24), and that a list of samples is taken one at each boundary is log 11; CHR.IAE = 1 is log 12. Nothing is
prefetched after the entry (20_memory.md R133, D23, log 22). -/
def Obligations.EnabledInterruptIsTaken : Prop :=
  ∀ (s : State) (v : BitVec 8) (rest : List Input),
    s.cfg.supported = true → s.inputs = .irq v :: rest → 32 ≤ v.toNat → s.runState ≠ .stuck → s.iae = false →
    s.psr.ie = true → s.psr.ee = true → s.idlyCnt = 0 → VectorReadable s v →
    ∃ t, step s = .next t ∧ TookException v true s.pc { s with inputs := rest } t

/-- While instructions execute, a request that IE, EE or an IDLY sequence masks changes nothing: the step is the one with no
event (60_exceptions.md R432). -/
def Obligations.MaskedInterruptIsIgnored : Prop :=
  ∀ (s : State) (v : BitVec 8) (rest : List Input),
    s.inputs = .irq v :: rest → 32 ≤ v.toNat → s.runState = .running →
    (s.psr.ie = false ∨ s.psr.ee = false ∨ s.idlyCnt ≠ 0) →
    step s = step { s with inputs := .idle :: rest }

/-- In a low-power state no instruction executes and nothing changes while no event is presented; a request ends it whatever
the masks, and the boundary goes on as in a running core (60_exceptions.md R460, decision D31; log 24). -/
def Obligations.LowPowerStateWaitsForARequest : Prop :=
  ∀ s : State, (s.runState = .wait ∨ s.runState = .doze ∨ s.runState = .stop) →
    (s.cfg.supported = true → s.iae = false → s.sample = .idle → step s = .next { s with inputs := s.inputs.tail }) ∧
    (∀ (v : BitVec 8) (rest : List Input), s.inputs = .irq v :: rest → step s = step { s with runState := .running })

/-- What the spec leaves undefined and tells a model to refuse: big-endian without BE_V2 (20_memory.md R102), an interrupt
vector below 32 (60_exceptions.md R430), to run with CHR.IAE = 1, whether a request arrives or not (10_state.md R75, decision
D15), CCR.MP with bit 1 set (10_state.md R63, D12), an enabled region with a reserved size, consulted (10_state.md R70). Logs
12 to 15. -/
def Obligations.UndefinedSettingsAreRefused : Prop :=
  (∀ s : State, s.cfg.endian = .big → s.cfg.beV2 = false → step s = .refused .unsupportedConfig) ∧
  (∀ (s : State) (v : BitVec 8) (rest : List Input), s.cfg.supported = true → s.inputs = .irq v :: rest →
    s.runState ≠ .stuck → v.toNat < 32 → step s = .refused .irqVectorReserved) ∧
  (∀ s : State, s.cfg.supported = true → s.runState ≠ .stuck → s.iae = true → s.sample ≠ .reset →
    (∀ v, s.sample = .irq v → 32 ≤ v.toNat) → step s = .refused .acceleratedInterrupt) ∧
  (∀ (s : State) (kind : AccessKind) (super : Bool) (a : Word), s.cfg.mpuRegions ≠ 0 → s.mp.getLsbD 1 = true →
    mpuVerdict s kind super a = .refuse .reservedMp) ∧
  (∀ (s : State) (kind : AccessKind) (super : Bool) (a : Word) (n : Fin 8), s.mp = 1 → n.val < s.cfg.mpuRegions.val →
    s.pacr[n.val].e = true → s.pacr[n.val].size.toNat ≤ 8 →
    (∀ k : Fin 8, n.val < k.val → k.val < s.cfg.mpuRegions.val → RegionMisses s.pacr[k.val] a) →
    mpuVerdict s kind super a = .refuse .reservedRegionSize)

/-- Reset is taken in any run state, whatever the masks and also with CHR.IAE = 1 (log 12), and leaves what 10_state.md R90
gives (70_reset_and_hazards.md R471, R472), nothing prefetched (20_memory.md R133, log 22); MP, the enables and IAE at 0 are
the decisions D13 and D15 (log 4). -/
def Obligations.ResetIsTakenInAnyRunState : Prop :=
  ∀ (s : State) (rest : List Input),
    s.cfg.supported = true → s.inputs = .reset :: rest → busError s.cfg .fetch 0 4 = false → inTcip s.cfg 0 4 = false →
    ∃ t, step s = .next t ∧ ResetDone { s with inputs := rest } t

/-! The invariant and the modes -/

/-- The state after power-on reset satisfies the invariant. -/
def Obligations.ResetStateSatisfiesInvariant : Prop := State.reset.Inv

/-- Every step keeps the invariant: the pc stays even, the memory canonical, the hard-wired bits as the spec says, a stopped
core in supervisor mode without an IDLY sequence (10_state.md R37, R57, R63, R64, R75, R85, 44_privileged_special.md R341).
It rests on the decisions D7, D10, D12, D23 and D32 (logs 13, 22, 25, 26, 35). -/
def Obligations.StepKeepsInvariant : Prop :=
  ∀ s t : State, s.Inv → step s = .next t → t.Inv

/-- No step changes the implementation parameters, so that CPUIDR, CCR.BE, CCR.BE_V2 and CCR.SCK are read-only (10_state.md
R58, R60 to R62). -/
def Obligations.StepKeepsConfiguration : Prop :=
  ∀ s t : State, step s = .next t → t.cfg = s.cfg

/-- An instruction executed in user mode changes no control register and no PSR field but C, or has entered an exception at
itself, in supervisor mode with EE and IE clear and the general registers, the protection registers, GCR and CHR as they were
(44_privileged_special.md R342). -/
def Obligations.UserModeReachesNoControlRegister : Prop :=
  ∀ (i : Instr) (s t : State), s.psr.s = false → exec i s = .next t →
    (KeepsControl s t ∧ t.runState = s.runState) ∨
      (t.psr.s = true ∧ t.psr.ee = false ∧ t.psr.ie = false ∧ t.epc = s.pc ∧ (∀ k : Reg, t.reg k = s.reg k) ∧
        t.cfg = s.cfg ∧ t.gcr = s.gcr ∧ t.mp = s.mp ∧ t.capr = s.capr ∧ t.pacr = s.pacr ∧ t.rid = s.rid ∧ t.iae = s.iae)

/-- What the spec gives the state after reset: supervisor mode, every other PSR field 0, the core running with no IDLY
sequence, and CR<0,0>, CR<13,0> and CR<31,0> reading accordingly (10_state.md R90). The value of CPUIDR is log 10, the place
of PSR.S log 5. -/
def Obligations.ResetStateReadsAsTheSpecSays : Prop :=
  State.reset.psr = { s := true, vec := 0, mm := false, ee := false, ic := false, ie := false, c := false } ∧
  State.reset.runState = .running ∧ State.reset.idlyCnt = 0 ∧
  readCr State.reset 0 0 = 0x80000000 ∧ readCr State.reset 13 0 = State.reset.cfg.cpuid ∧ readCr State.reset 31 0 = 0

/-! Exceptions -/

/-- Exception entry, where the vector word may be fetched: EPSR, EPC, S, VEC, EE, IE, the pc, C in an IDLY sequence, and
nothing prefetched any more (20_memory.md R133, log 22) (60_exceptions.md R410, R420, 44_privileged_special.md R352; C
before the copy is decision D32, log 25). -/
def Obligations.ExceptionEntrySavesAndVectors : Prop :=
  ∀ (s : State) (v : BitVec 8) (isIrq : Bool) (ret : Word),
    VectorReadable s (if s.psr.ee = false ∧ isIrq = false then 8 else v) →
    ∃ t, exceptionEntry v isIrq ret s = .next t ∧
      TookException (if s.psr.ee = false ∧ isIrq = false then 8 else v) isIrq ret s t

/-- What exception entry does not change, whatever happens to the vector fetch: general registers, MM, IC, C but for the IDLY
case, memory, the other control registers; and there is one EPC, which it overwrites (60_exceptions.md R411). What holds
after a denied vector fetch is decision D33 (R418, log 20); EPSR.C = PSR.C in an IDLY sequence is decision D32 (log 25). -/
def Obligations.ExceptionEntryLeavesTheRest : Prop :=
  ∀ (s t : State) (v : BitVec 8) (isIrq : Bool) (ret : Word), exceptionEntry v isIrq ret s = .next t →
    (∀ k : Reg, t.reg k = s.reg k) ∧ t.psr.mm = s.psr.mm ∧ t.psr.ic = s.psr.ic ∧
    (s.idlyCnt = 0 ∨ isIrq = true → t.psr.c = s.psr.c) ∧ t.epsr.c = t.psr.c ∧ t.mem = s.mem ∧ t.cfg = s.cfg ∧
    t.gcr = s.gcr ∧ t.mp = s.mp ∧ t.capr = s.capr ∧ t.pacr = s.pacr ∧ t.rid = s.rid ∧ t.iae = s.iae ∧ t.epc = ret

/-- A denied vector fetch enters vector 8 with EPC kept and EPSR the PSR the first entry left; when vector 8 is denied too
the terminal state follows, and it stays (60_exceptions.md R418, decision D33; log 20). -/
def Obligations.DeniedVectorFetchIsUnrecoverable : Prop :=
  (∀ (s : State) (v : BitVec 8) (isIrq : Bool) (ret : Word),
    accessVerdict s .fetch true (vectorAddr (effectiveVector v isIrq s)) 4 = .deny →
    (VectorReadable s 8 → ∃ t, exceptionEntry v isIrq ret s = .next t ∧ t.epc = ret ∧ t.psr.vec = 8 ∧
      t.epsr.vec = effectiveVector v isIrq s ∧ t.epsr.s = true ∧ t.epsr.ee = false ∧ t.epsr.ie = false ∧
      t.pc = s.mem.readWord s.cfg.endian 0x20 &&& 0xFFFFFFFE ∧ t.runState = .running) ∧
    (accessVerdict s .fetch true (vectorAddr 8) 4 = .deny →
      ∃ t, exceptionEntry v isIrq ret s = .next t ∧ t.epc = ret ∧ t.runState = .stuck)) ∧
  (∀ s : State, s.cfg.supported = true → s.runState = .stuck → s.sample ≠ .reset → step s = .fault .lockup)

/-- A privileged instruction in user mode raises the privilege violation exception, vector 5, and does nothing else
(44_privileged_special.md R340, R341, 60_exceptions.md R406). Vector 8 while EE = 0 is 60_exceptions.md R420; C set before
PSR is saved in an IDLY sequence is decision D32 (log 25). Nothing is prefetched after the entry (20_memory.md R133, D23,
log 22). -/
def Obligations.UserModePrivilegedInstructionTraps : Prop :=
  ∀ (i : Instr) (s : State), isPrivileged i = true → s.psr.s = false → VectorReadable s (entryVector s 5) →
    Raises (exec i s) 5 s

/-- TRAP32 n enters vector 16 + n and BKPT16 vector 7, in either mode, with EPC the address of the instruction itself;
vector 8 while EE = 0 (44_privileged_special.md R357, R358, 60_exceptions.md R420; the absence of a debug unit is log 31). C
set before PSR is saved in an IDLY sequence is decision D32 (log 25). Nothing is prefetched after the entry (20_memory.md
R133, D23, log 22). -/
def Obligations.TrapAndBreakpointEnterTheirVectors : Prop :=
  (∀ (s : State) (n : BitVec 2), VectorReadable s (entryVector s (BitVec.ofNat 8 (16 + n.toNat))) →
    Raises (exec (.trap32 n) s) (BitVec.ofNat 8 (16 + n.toNat)) s) ∧
  (∀ s : State, VectorReadable s (entryVector s 7) → Raises (exec .bkpt16 s) 7 s)

/-! Registers and memory -/

/-- The sixteen register numbers: 0 to 8 and 13 to 15 hold what is written, 9 to 12 read 0 and drop writes, and a write
reaches no other register (10_state.md R30). -/
def Obligations.RegistersReadAndWrite : Prop :=
  ∀ (s : State) (n : Reg) (v : Word),
    ((n.toNat ≤ 8 ∨ 13 ≤ n.toNat) → (s.setReg n v).reg n = v) ∧
    ((9 ≤ n.toNat ∧ n.toNat ≤ 12) → s.reg n = 0 ∧ s.setReg n v = s) ∧
    (∀ k : Reg, k ≠ n → (s.setReg n v).reg k = s.reg k)

/-- A byte written reads back, every other byte keeps its value, and the canonical form is kept. The form is the model's. -/
def Obligations.MemoryByteReadsBack : Prop :=
  ∀ (m : Memory) (a : Word) (b : Byte), m.wf = true →
    (m.write a b).wf = true ∧ (m.write a b).read a = b ∧ (∀ x : Word, x ≠ a → (m.write a b).read x = m.read x)

/-- After a word store the bytes, the halfwords and the word at its address read as the byte order says (20_memory.md R101).
-/
def Obligations.WordStoreReadsBackAtEveryWidth : Prop :=
  ∀ (s : State) (a v : Word), s.mem.wf = true →
    readData (writeData s .word a v) .word a = v ∧
    (∀ k < 4, readData (writeData s .word a v) .byte (a + BitVec.ofNat 32 k) =
      (datumByte s.cfg.endian 4 v k).setWidth 32) ∧
    (s.cfg.endian = .little → readData (writeData s .word a v) .half a = BitVec.ofNat 32 (v.toNat % 2 ^ 16) ∧
      readData (writeData s .word a v) .half (a + 2) = BitVec.ofNat 32 (v.toNat / 2 ^ 16)) ∧
    (s.cfg.endian = .big → readData (writeData s .word a v) .half a = BitVec.ofNat 32 (v.toNat / 2 ^ 16) ∧
      readData (writeData s .word a v) .half (a + 2) = BitVec.ofNat 32 (v.toNat % 2 ^ 16))

/-- An access is misaligned when its address is no multiple of its size, and the aligned address is the next multiple below
(20_memory.md R105, R106). -/
def Obligations.AlignmentIsByMultiplesOfTheSize : Prop :=
  ∀ (sz : Size) (a : Word), (misaligned sz a = true ↔ a.toNat % sz.bytes ≠ 0) ∧
    (alignDown sz a).toNat = a.toNat - a.toNat % sz.bytes

/-- With PSR.MM = 1 the low address bits are cleared and the aligned datum is accessed: no single-access load or store is
misaligned (20_memory.md R106). -/
def Obligations.MaskedMisalignmentAccessesTheAlignedDatum : Prop :=
  ∀ (s : State) (a v : Word), s.psr.mm = true →
    load s .half a = load s .half (a &&& 0xFFFFFFFE) ∧ load s .word a = load s .word (a &&& 0xFFFFFFFC) ∧
    store s .half a v = store s .half (a &&& 0xFFFFFFFE) v ∧ store s .word a v = store s .word (a &&& 0xFFFFFFFC) v ∧
    (∀ (sz : Size) (t : State), load s sz a ≠ .raise .misaligned t ∧ store s sz a v ≠ .raise .misaligned t)

/-! Protection -/

/-- With the MPU on, the highest-numbered region that matches decides alone, by its AP and X fields (20_memory.md R121, R122;
that a fetch needs the read permission is decision D19, log 27). -/
def Obligations.HighestMatchingRegionDecides : Prop :=
  ∀ (s : State) (kind : AccessKind) (super : Bool) (a : Word) (n : Fin 8),
    s.mp = 1 → n.val < s.cfg.mpuRegions.val → RegionMatches s.pacr[n.val] a →
    (∀ k : Fin 8, n.val < k.val → k.val < s.cfg.mpuRegions.val → RegionMisses s.pacr[k.val] a) →
    (PermissionAllows super kind (s.capr.extractLsb' (8 + 2 * n.val) 2) (s.capr.getLsbD n.val) →
      mpuVerdict s kind super a = .permit) ∧
    (¬ PermissionAllows super kind (s.capr.extractLsb' (8 + 2 * n.val) 2) (s.capr.getLsbD n.val) →
      mpuVerdict s kind super a = .deny)

/-- With the MPU on, an address in no region is denied; with the MPU absent or off its verdict is to permit (20_memory.md
R120, R124; that the denial is an access error is decision D20, log 27). The verdict of the whole access: what the MPU denies
or refuses; else denied where the bus answers with an error (R103, R104, R110; its list of ranges is log 17) and for a
user-mode data access in the TCIP window (R116, decision D18); refused for any other access there (log 16); else permitted.
-/
def Obligations.NoRegionDeniesAndNoMpuPermits : Prop :=
  (∀ (s : State) (kind : AccessKind) (super : Bool) (a : Word), s.mp = 1 → s.cfg.mpuRegions ≠ 0 →
    (∀ k : Fin 8, k.val < s.cfg.mpuRegions.val → RegionMisses s.pacr[k.val] a) → mpuVerdict s kind super a = .deny) ∧
  (∀ (s : State) (kind : AccessKind) (super : Bool) (a : Word), s.cfg.mpuRegions = 0 ∨ s.mp = 0 →
    mpuVerdict s kind super a = .permit) ∧
  (∀ (s : State) (kind : AccessKind) (super : Bool) (a : Word) (n : Nat),
    (mpuVerdict s kind super a = .deny → accessVerdict s kind super a n = .deny) ∧
    (∀ r, mpuVerdict s kind super a = .refuse r → accessVerdict s kind super a n = .refuse r) ∧
    (mpuVerdict s kind super a = .permit →
      (BusAnswersError s.cfg kind a n → accessVerdict s kind super a n = .deny) ∧
      (InDeviceWindow s.cfg a n → super = false → kind ≠ .fetch → accessVerdict s kind super a n = .deny) ∧
      (¬ BusAnswersError s.cfg kind a n → InDeviceWindow s.cfg a n → super = true ∨ kind = .fetch →
        accessVerdict s kind super a n = .refuse .tcipDevice) ∧
      (¬ BusAnswersError s.cfg kind a n → ¬ InDeviceWindow s.cfg a n → accessVerdict s kind super a n = .permit)))

/-- A region with E = 0 matches no address: whatever its other fields hold, every verdict is the same (10_state.md R71). -/
def Obligations.DisabledRegionHasNoEffect : Prop :=
  ∀ (s : State) (n : Fin 8) (p : Pacr) (kind : AccessKind) (super : Bool) (a : Word),
    s.pacr[n.val].e = false → p.e = false →
    mpuVerdict { s with pacr := s.pacr.set n.val p n.isLt } kind super a = mpuVerdict s kind super a

/-! Results of the data instructions -/

/-- ADDU, ADDI, SUBU, SUBI in all their forms, each with its word (40_arith_logic_shift.md R200, R201, R203 to R208, R210 to
R212): the sum or difference modulo 2^32, C and everything else as before. -/
def Obligations.AddAndSubtractResults : Prop :=
  ∀ s : State,
    (∀ rz rx : BitVec 4,
      encode (.addu16RzRx rz rx) = .half (0b011000#6 ++ rz ++ rx ++ 0b00#2 : BitVec 16) ∧
      Completes (.addu16RzRx rz rx) s
      (WritesReg rz (BitVec.ofNat 32 ((s.reg rz).toNat + (s.reg rx).toNat)) s.psr.c 2 s)) ∧
    (∀ rz rx ry : BitVec 3,
      encode (.addu16RzRxRy rz rx ry) = .half (0b01011#5 ++ rx ++ rz ++ ry ++ 0b00#2 : BitVec 16) ∧
      Completes (.addu16RzRxRy rz rx ry) s
      (WritesReg (lowReg rz) (BitVec.ofNat 32 ((s.reg (lowReg rx)).toNat + (s.reg (lowReg ry)).toNat)) s.psr.c 2 s)) ∧
    (∀ (rz : BitVec 3) (imm8 : BitVec 8),
      encode (.addi16Oimm8 rz imm8) = .half (0b00100#5 ++ rz ++ imm8 : BitVec 16) ∧
      Completes (.addi16Oimm8 rz imm8) s
      (WritesReg (lowReg rz) (BitVec.ofNat 32 ((s.reg (lowReg rz)).toNat + (imm8.toNat + 1))) s.psr.c 2 s)) ∧
    (∀ rz rx imm3 : BitVec 3,
      encode (.addi16Oimm3 rz rx imm3) = .half (0b01011#5 ++ rx ++ rz ++ imm3 ++ 0b10#2 : BitVec 16) ∧
      Completes (.addi16Oimm3 rz rx imm3) s
      (WritesReg (lowReg rz) (BitVec.ofNat 32 ((s.reg (lowReg rx)).toNat + (imm3.toNat + 1))) s.psr.c 2 s)) ∧
    (∀ (rz : BitVec 3) (imm8 : BitVec 8),
      encode (.addi16RzSp rz imm8) = .half (0b00011#5 ++ rz ++ imm8 : BitVec 16) ∧
      Completes (.addi16RzSp rz imm8) s
      (WritesReg (lowReg rz) (BitVec.ofNat 32 ((s.reg 14).toNat + 4 * imm8.toNat)) s.psr.c 2 s)) ∧
    (∀ (imm2 : BitVec 2) (imm5 : BitVec 5),
      encode (.addi16SpSp imm2 imm5) = .half (0b000101#6 ++ imm2 ++ 0b000#3 ++ imm5 : BitVec 16) ∧
      Completes (.addi16SpSp imm2 imm5) s
      (WritesReg 14 (BitVec.ofNat 32 ((s.reg 14).toNat + 4 * (32 * imm2.toNat + imm5.toNat))) s.psr.c 2 s)) ∧
    (∀ rz rx : BitVec 4,
      encode (.subu16RzRx rz rx) = .half (0b011000#6 ++ rz ++ rx ++ 0b10#2 : BitVec 16) ∧
      Completes (.subu16RzRx rz rx) s
      (WritesReg rz (BitVec.ofInt 32 ((s.reg rz).toInt - (s.reg rx).toInt)) s.psr.c 2 s)) ∧
    (∀ rz rx ry : BitVec 3,
      encode (.subu16RzRxRy rz rx ry) = .half (0b01011#5 ++ rx ++ rz ++ ry ++ 0b01#2 : BitVec 16) ∧
      Completes (.subu16RzRxRy rz rx ry) s
      (WritesReg (lowReg rz) (BitVec.ofInt 32 ((s.reg (lowReg rx)).toInt - (s.reg (lowReg ry)).toInt)) s.psr.c 2 s)) ∧
    (∀ (rz : BitVec 3) (imm8 : BitVec 8),
      encode (.subi16Oimm8 rz imm8) = .half (0b00101#5 ++ rz ++ imm8 : BitVec 16) ∧
      Completes (.subi16Oimm8 rz imm8) s
      (WritesReg (lowReg rz) (BitVec.ofInt 32 ((s.reg (lowReg rz)).toInt - (imm8.toNat + 1))) s.psr.c 2 s)) ∧
    (∀ rz rx imm3 : BitVec 3,
      encode (.subi16Oimm3 rz rx imm3) = .half (0b01011#5 ++ rx ++ rz ++ imm3 ++ 0b11#2 : BitVec 16) ∧
      Completes (.subi16Oimm3 rz rx imm3) s
      (WritesReg (lowReg rz) (BitVec.ofInt 32 ((s.reg (lowReg rx)).toInt - (imm3.toNat + 1))) s.psr.c 2 s)) ∧
    (∀ (imm2 : BitVec 2) (imm5 : BitVec 5),
      encode (.subi16SpSp imm2 imm5) = .half (0b000101#6 ++ imm2 ++ 0b001#3 ++ imm5 : BitVec 16) ∧
      Completes (.subi16SpSp imm2 imm5) s
      (WritesReg 14 (BitVec.ofInt 32 ((s.reg 14).toInt - 4 * (32 * imm2.toNat + imm5.toNat))) s.psr.c 2 s))

/-- ADDC16 and SUBC16, each with its word: the sum with C and its carry, the difference with the complement of C and the
absence of a borrow; C is written even where the destination is r9 to r12 (40_arith_logic_shift.md R202, R209, R214). -/
def Obligations.CarryArithmeticResults : Prop :=
  ∀ (s : State) (rz rx : BitVec 4),
    encode (.addc16 rz rx) = .half (0b011000#6 ++ rz ++ rx ++ 0b01#2 : BitVec 16) ∧
      Completes (.addc16 rz rx) s
      (WritesReg rz (BitVec.ofNat 32 ((s.reg rz).toNat + (s.reg rx).toNat + s.psr.c.toNat))
        (decide (2 ^ 32 ≤ (s.reg rz).toNat + (s.reg rx).toNat + s.psr.c.toNat)) 2 s) ∧
    encode (.subc16 rz rx) = .half (0b011000#6 ++ rz ++ rx ++ 0b11#2 : BitVec 16) ∧
      Completes (.subc16 rz rx) s
      (WritesReg rz (BitVec.ofInt 32 ((s.reg rz).toNat - (s.reg rx).toNat - (1 - s.psr.c.toNat : Int)))
        (decide ((s.reg rx).toNat + (1 - s.psr.c.toNat) ≤ (s.reg rz).toNat)) 2 s)

/-- AND16, ANDN16, OR16, XOR16, NOR16, and NOT16 as NOR16 with one register, each with its word (40_arith_logic_shift.md R215
to R221). -/
def Obligations.LogicResults : Prop :=
  ∀ (s : State) (rz rx : BitVec 4),
    encode (.and16 rz rx) = .half (0b011010#6 ++ rz ++ rx ++ 0b00#2 : BitVec 16) ∧
      Completes (.and16 rz rx) s (WritesReg rz (s.reg rz &&& s.reg rx) s.psr.c 2 s) ∧
    encode (.andn16 rz rx) = .half (0b011010#6 ++ rz ++ rx ++ 0b01#2 : BitVec 16) ∧
      Completes (.andn16 rz rx) s (WritesReg rz (s.reg rz &&& (s.reg rx ^^^ 0xFFFFFFFF)) s.psr.c 2 s) ∧
    encode (.or16 rz rx) = .half (0b011011#6 ++ rz ++ rx ++ 0b00#2 : BitVec 16) ∧
      Completes (.or16 rz rx) s (WritesReg rz (s.reg rz ||| s.reg rx) s.psr.c 2 s) ∧
    encode (.xor16 rz rx) = .half (0b011011#6 ++ rz ++ rx ++ 0b01#2 : BitVec 16) ∧
      Completes (.xor16 rz rx) s (WritesReg rz (s.reg rz ^^^ s.reg rx) s.psr.c 2 s) ∧
    encode (.nor16 rz rx) = .half (0b011011#6 ++ rz ++ rx ++ 0b10#2 : BitVec 16) ∧
      Completes (.nor16 rz rx) s (WritesReg rz ((s.reg rz ||| s.reg rx) ^^^ 0xFFFFFFFF) s.psr.c 2 s) ∧
    encode (.nor16 rz rz) = .half (0b011011#6 ++ rz ++ rz ++ 0b10#2 : BitVec 16) ∧
      Completes (.nor16 rz rz) s (WritesReg rz (s.reg rz ^^^ 0xFFFFFFFF) s.psr.c 2 s)

/-- The shifts, each with its word: multiplication by a power of 2, division of the unsigned value, floor division of the
signed value, by the low 6 bits of the count register or by IMM5; and the rotate, whose counts 32 to 63 give 0 as the manual
states it (40_arith_logic_shift.md R225 to R232; log 34). -/
def Obligations.ShiftResults : Prop :=
  ∀ s : State,
    (∀ rz rx : BitVec 4,
      encode (.lsl16 rz rx) = .half (0b011100#6 ++ rz ++ rx ++ 0b00#2 : BitVec 16) ∧
      Completes (.lsl16 rz rx) s
      (WritesReg rz (BitVec.ofNat 32 ((s.reg rz).toNat * 2 ^ ((s.reg rx).toNat % 64))) s.psr.c 2 s)) ∧
    (∀ rz rx : BitVec 4,
      encode (.lsr16 rz rx) = .half (0b011100#6 ++ rz ++ rx ++ 0b01#2 : BitVec 16) ∧
      Completes (.lsr16 rz rx) s
      (WritesReg rz (BitVec.ofNat 32 ((s.reg rz).toNat / 2 ^ ((s.reg rx).toNat % 64))) s.psr.c 2 s)) ∧
    (∀ rz rx : BitVec 4,
      encode (.asr16 rz rx) = .half (0b011100#6 ++ rz ++ rx ++ 0b10#2 : BitVec 16) ∧
      Completes (.asr16 rz rx) s
      (WritesReg rz (BitVec.ofInt 32 ((s.reg rz).toInt / 2 ^ ((s.reg rx).toNat % 64))) s.psr.c 2 s)) ∧
    (∀ rz rx : BitVec 4,
      encode (.rotl16 rz rx) = .half (0b011100#6 ++ rz ++ rx ++ 0b11#2 : BitVec 16) ∧
      Completes (.rotl16 rz rx) s
      (WritesReg rz (if 32 ≤ (s.reg rx).toNat % 64 then 0 else (s.reg rz).rotateLeft ((s.reg rx).toNat % 64)) s.psr.c 2
        s)) ∧
    (∀ (rz rx : BitVec 3) (imm5 : BitVec 5),
      encode (.lsli16 rz rx imm5) = .half (0b01000#5 ++ rx ++ rz ++ imm5 : BitVec 16) ∧
      Completes (.lsli16 rz rx imm5) s
      (WritesReg (lowReg rz) (BitVec.ofNat 32 ((s.reg (lowReg rx)).toNat * 2 ^ imm5.toNat)) s.psr.c 2 s)) ∧
    (∀ (rz rx : BitVec 3) (imm5 : BitVec 5),
      encode (.lsri16 rz rx imm5) = .half (0b01001#5 ++ rx ++ rz ++ imm5 : BitVec 16) ∧
      Completes (.lsri16 rz rx imm5) s
      (WritesReg (lowReg rz) (BitVec.ofNat 32 ((s.reg (lowReg rx)).toNat / 2 ^ imm5.toNat)) s.psr.c 2 s)) ∧
    (∀ (rz rx : BitVec 3) (imm5 : BitVec 5),
      encode (.asri16 rz rx imm5) = .half (0b01010#5 ++ rx ++ rz ++ imm5 : BitVec 16) ∧
      Completes (.asri16 rz rx imm5) s
      (WritesReg (lowReg rz) (BitVec.ofInt 32 ((s.reg (lowReg rx)).toInt / 2 ^ imm5.toNat)) s.psr.c 2 s))

/-- The compare and test instructions, each with its word, write C alone (41_compare_move_bit_ext_mult.md R240 to R247,
R256): CMPHS, CMPLT, CMPNE, TST, CMPHSI and CMPLTI with the biased immediate, CMPNEI with the plain one, TSTNBZ, BTSTI. -/
def Obligations.CompareAndTestResults : Prop :=
  ∀ s : State,
    (∀ rx ry : BitVec 4,
      encode (.cmphs16 rx ry) = .half (0b011001#6 ++ ry ++ rx ++ 0b00#2 : BitVec 16) ∧
      Completes (.cmphs16 rx ry) s
      (WritesFlagAndPc (decide ((s.reg ry).toNat ≤ (s.reg rx).toNat)) (s.pc + 2) s)) ∧
    (∀ rx ry : BitVec 4,
      encode (.cmplt16 rx ry) = .half (0b011001#6 ++ ry ++ rx ++ 0b01#2 : BitVec 16) ∧
      Completes (.cmplt16 rx ry) s
      (WritesFlagAndPc (decide ((s.reg rx).toInt < (s.reg ry).toInt)) (s.pc + 2) s)) ∧
    (∀ rx ry : BitVec 4,
      encode (.cmpne16 rx ry) = .half (0b011001#6 ++ ry ++ rx ++ 0b10#2 : BitVec 16) ∧
      Completes (.cmpne16 rx ry) s
      (WritesFlagAndPc (decide ((s.reg rx).toNat ≠ (s.reg ry).toNat)) (s.pc + 2) s)) ∧
    (∀ rx ry : BitVec 4,
      encode (.tst16 rx ry) = .half (0b011010#6 ++ ry ++ rx ++ 0b10#2 : BitVec 16) ∧
      Completes (.tst16 rx ry) s
      (WritesFlagAndPc (decide (∃ k : Fin 32, (s.reg rx).getLsbD k.val = true ∧ (s.reg ry).getLsbD k.val = true))
        (s.pc + 2) s)) ∧
    (∀ (rx : BitVec 3) (imm5 : BitVec 5),
      encode (.cmphsi16 rx imm5) = .half (0b00111#5 ++ rx ++ 0b000#3 ++ imm5 : BitVec 16) ∧
      Completes (.cmphsi16 rx imm5) s
      (WritesFlagAndPc (decide (imm5.toNat + 1 ≤ (s.reg (lowReg rx)).toNat)) (s.pc + 2) s)) ∧
    (∀ (rx : BitVec 3) (imm5 : BitVec 5),
      encode (.cmplti16 rx imm5) = .half (0b00111#5 ++ rx ++ 0b001#3 ++ imm5 : BitVec 16) ∧
      Completes (.cmplti16 rx imm5) s
      (WritesFlagAndPc (decide ((s.reg (lowReg rx)).toInt < imm5.toNat + 1)) (s.pc + 2) s)) ∧
    (∀ (rx : BitVec 3) (imm5 : BitVec 5),
      encode (.cmpnei16 rx imm5) = .half (0b00111#5 ++ rx ++ 0b010#3 ++ imm5 : BitVec 16) ∧
      Completes (.cmpnei16 rx imm5) s
      (WritesFlagAndPc (decide ((s.reg (lowReg rx)).toNat ≠ imm5.toNat)) (s.pc + 2) s)) ∧
    (∀ rx : BitVec 4,
      encode (.tstnbz16 rx) = .half (0b0110100000#10 ++ rx ++ 0b11#2 : BitVec 16) ∧
      Completes (.tstnbz16 rx) s
      (WritesFlagAndPc (decide (∀ k : Fin 4, (s.reg rx).toNat / 256 ^ k.val % 256 ≠ 0)) (s.pc + 2) s)) ∧
    (∀ (rx : BitVec 3) (imm5 : BitVec 5),
      encode (.btsti16 rx imm5) = .half (0b00111#5 ++ rx ++ 0b110#3 ++ imm5 : BitVec 16) ∧
      Completes (.btsti16 rx imm5) s
      (WritesFlagAndPc (decide ((s.reg (lowReg rx)).toNat / 2 ^ imm5.toNat % 2 = 1)) (s.pc + 2) s))

/-- MOV16, MOVI16, MVCV16, BCLRI16, BSETI16, the extracts and MULT16, each with its word (41_compare_move_bit_ext_mult.md
R250 to R252, R254, R255, R257 to R261). -/
def Obligations.MoveBitExtractAndMultiplyResults : Prop :=
  ∀ s : State,
    (∀ rz rx : BitVec 4,
      encode (.mov16 rz rx) = .half (0b011011#6 ++ rz ++ rx ++ 0b11#2 : BitVec 16) ∧
      Completes (.mov16 rz rx) s (WritesReg rz (s.reg rx) s.psr.c 2 s)) ∧
    (∀ (rz : BitVec 3) (imm8 : BitVec 8),
      encode (.movi16 rz imm8) = .half (0b00110#5 ++ rz ++ imm8 : BitVec 16) ∧
      Completes (.movi16 rz imm8) s
      (WritesReg (lowReg rz) (BitVec.ofNat 32 imm8.toNat) s.psr.c 2 s)) ∧
    (∀ rz : BitVec 4,
      encode (.mvcv16 rz) = .half (0b011001#6 ++ rz ++ 0b000011#6 : BitVec 16) ∧
      Completes (.mvcv16 rz) s (WritesReg rz (BitVec.ofNat 32 (1 - s.psr.c.toNat)) s.psr.c 2 s)) ∧
    (∀ (rz : BitVec 3) (imm5 : BitVec 5),
      encode (.bclri16 rz imm5) = .half (0b00111#5 ++ rz ++ 0b100#3 ++ imm5 : BitVec 16) ∧
      Completes (.bclri16 rz imm5) s
      (WritesReg (lowReg rz) (BitVec.ofNat 32 ((s.reg (lowReg rz)).toNat -
        (s.reg (lowReg rz)).toNat / 2 ^ imm5.toNat % 2 * 2 ^ imm5.toNat)) s.psr.c 2 s)) ∧
    (∀ (rz : BitVec 3) (imm5 : BitVec 5),
      encode (.bseti16 rz imm5) = .half (0b00111#5 ++ rz ++ 0b101#3 ++ imm5 : BitVec 16) ∧
      Completes (.bseti16 rz imm5) s
      (WritesReg (lowReg rz) (BitVec.ofNat 32 ((s.reg (lowReg rz)).toNat +
        (1 - (s.reg (lowReg rz)).toNat / 2 ^ imm5.toNat % 2) * 2 ^ imm5.toNat)) s.psr.c 2 s)) ∧
    (∀ rz rx : BitVec 4,
      encode (.zextb16 rz rx) = .half (0b011101#6 ++ rz ++ rx ++ 0b00#2 : BitVec 16) ∧
      Completes (.zextb16 rz rx) s
      (WritesReg rz (BitVec.ofNat 32 ((s.reg rx).toNat % 2 ^ 8)) s.psr.c 2 s)) ∧
    (∀ rz rx : BitVec 4,
      encode (.zexth16 rz rx) = .half (0b011101#6 ++ rz ++ rx ++ 0b01#2 : BitVec 16) ∧
      Completes (.zexth16 rz rx) s
      (WritesReg rz (BitVec.ofNat 32 ((s.reg rx).toNat % 2 ^ 16)) s.psr.c 2 s)) ∧
    (∀ rz rx : BitVec 4,
      encode (.sextb16 rz rx) = .half (0b011101#6 ++ rz ++ rx ++ 0b10#2 : BitVec 16) ∧
      Completes (.sextb16 rz rx) s
      (WritesReg rz (BitVec.ofInt 32 (((s.reg rx).toNat : Int).bmod (2 ^ 8))) s.psr.c 2 s)) ∧
    (∀ rz rx : BitVec 4,
      encode (.sexth16 rz rx) = .half (0b011101#6 ++ rz ++ rx ++ 0b11#2 : BitVec 16) ∧
      Completes (.sexth16 rz rx) s
      (WritesReg rz (BitVec.ofInt 32 (((s.reg rx).toNat : Int).bmod (2 ^ 16))) s.psr.c 2 s)) ∧
    (∀ rz rx : BitVec 4,
      encode (.mult16 rz rx) = .half (0b011111#6 ++ rz ++ rx ++ 0b00#2 : BitVec 16) ∧
      Completes (.mult16 rz rx) s
      (WritesReg rz (BitVec.ofNat 32 ((s.reg rx).toNat * (s.reg rz).toNat)) s.psr.c 2 s))

/-- BR16, BT16, BF16, BR32, each with its word, change the pc alone: twice the signed offset from the branch itself, or past
it (42_branch_jump.md R280 to R283, R287, R288); after a taken branch nothing is prefetched any more, so that every fetch
sees the stores made before it (20_memory.md R133, D23, log 22). -/
def Obligations.BranchResults : Prop :=
  ∀ s : State,
    (∀ offset : BitVec 10,
      encode (.br16 offset) = .half (0b000001#6 ++ offset : BitVec 16) ∧
      Completes (.br16 offset) s
      (WritesFlagAndPc s.psr.c (s.pc + BitVec.ofInt 32 (2 * offset.toInt)) { s with window := [] })) ∧
    (∀ offset : BitVec 10,
      encode (.bt16 offset) = .half (0b000010#6 ++ offset : BitVec 16) ∧
      Completes (.bt16 offset) s (if s.psr.c = true
        then WritesFlagAndPc true (s.pc + BitVec.ofInt 32 (2 * offset.toInt)) { s with window := [] }
        else WritesFlagAndPc false (s.pc + 2) s)) ∧
    (∀ offset : BitVec 10,
      encode (.bf16 offset) = .half (0b000011#6 ++ offset : BitVec 16) ∧
      Completes (.bf16 offset) s (if s.psr.c = false
        then WritesFlagAndPc false (s.pc + BitVec.ofInt 32 (2 * offset.toInt)) { s with window := [] }
        else WritesFlagAndPc true (s.pc + 2) s)) ∧
    (∀ offset : BitVec 16,
      encode (.br32 offset) = .full (0b1110100000000000#16 ++ offset : BitVec 32) ∧
      Completes (.br32 offset) s
      (WritesFlagAndPc s.psr.c (s.pc + BitVec.ofInt 32 (2 * offset.toInt)) { s with window := [] }))

/-- JMP16 goes to its register with bit 0 dropped; BSR32 and JSR16 also write the address of the next instruction to r15,
and JSR16 reads its register first (42_branch_jump.md R284 to R286, R290; `jsr16 r15` is decision D37, log 39). Nothing is
prefetched any more (20_memory.md R133, D23, log 22). -/
def Obligations.JumpAndLinkResults : Prop :=
  ∀ s : State,
    (∀ rx : BitVec 4,
      Completes (.jmp16 rx) s (WritesFlagAndPc s.psr.c (s.reg rx &&& 0xFFFFFFFE) { s with window := [] })) ∧
    (∀ rx : BitVec 4, Completes (.jsr16 rx) s fun t =>
      t.pc = s.reg rx &&& 0xFFFFFFFE ∧ t.reg 15 = s.pc + 2 ∧ (∀ k : Reg, k ≠ 15 → t.reg k = s.reg k) ∧
      t.psr.c = s.psr.c ∧ (∀ a : Word, t.mem.read a = s.mem.read a) ∧ SameSystem { s with window := [] } t) ∧
    (∀ offset : BitVec 26, Completes (.bsr32 offset) s fun t =>
      t.pc = s.pc + BitVec.ofInt 32 (2 * offset.toInt) ∧ t.reg 15 = s.pc + 4 ∧ (∀ k : Reg, k ≠ 15 → t.reg k = s.reg k) ∧
      t.psr.c = s.psr.c ∧ (∀ a : Word, t.mem.read a = s.mem.read a) ∧ SameSystem { s with window := [] } t)

/-! Loads, stores and the stack -/

/-- The loads with a base register, and LRW16 and LRW32, which never misalign: each loads the zero-extended datum at the
aligned address it computes, in the current mode's permissions (43_load_store.md R300 to R307,
41_compare_move_bit_ext_mult.md R262, R263, 20_memory.md R103, R109, R111; the encodings' general knowledge is log 8). -/
def Obligations.LoadResults : Prop :=
  ∀ s : State,
    (∀ (rz rx : BitVec 3) (d : BitVec 5),
      LoadsFrom (.ld16b rz rx d) (lowReg rz) .byte (s.reg (lowReg rx) + BitVec.ofNat 32 d.toNat) 2 s ∧
      LoadsFrom (.ld16h rz rx d) (lowReg rz) .half (s.reg (lowReg rx) + BitVec.ofNat 32 (2 * d.toNat)) 2 s ∧
      LoadsFrom (.ld16w rz rx d) (lowReg rz) .word (s.reg (lowReg rx) + BitVec.ofNat 32 (4 * d.toNat)) 2 s) ∧
    (∀ (rz d3 : BitVec 3) (d5 : BitVec 5),
      LoadsFrom (.ld16wSp rz d3 d5) (lowReg rz) .word (s.reg 14 + BitVec.ofNat 32 (4 * (32 * d3.toNat + d5.toNat))) 2 s) ∧
    (∀ (rz rx : BitVec 4) (d : BitVec 12),
      LoadsFrom (.ld32b rz rx d) rz .byte (s.reg rx + BitVec.ofNat 32 d.toNat) 4 s ∧
      LoadsFrom (.ld32h rz rx d) rz .half (s.reg rx + BitVec.ofNat 32 (2 * d.toNat)) 4 s ∧
      LoadsFrom (.ld32w rz rx d) rz .word (s.reg rx + BitVec.ofNat 32 (4 * d.toNat)) 4 s) ∧
    (∀ (rz : BitVec 3) (imm1 : BitVec 1) (imm2 : BitVec 2) (imm5 : BitVec 5),
      accessVerdict s .read s.psr.s (literalAddr s.pc (lrwOffset imm1 imm2 imm5)) 4 = .permit →
      ∃ v, HoldsDatum s ((s.pc + BitVec.ofNat 32 (4 * (if imm1 = 1 then 32 * imm2.toNat + imm5.toNat
          else 255 - (32 * imm2.toNat + imm5.toNat)))) &&& 0xFFFFFFFC) 4 v ∧
        Completes (.lrw16 rz imm1 imm2 imm5) s (WritesReg (lowReg rz) v s.psr.c 2 s)) ∧
    (∀ (rz : BitVec 4) (imm16 : BitVec 16),
      accessVerdict s .read s.psr.s (literalAddr s.pc imm16) 4 = .permit →
      ∃ v, HoldsDatum s ((s.pc + BitVec.ofNat 32 (4 * imm16.toNat)) &&& 0xFFFFFFFC) 4 v ∧
        Completes (.lrw32 rz imm16) s (WritesReg rz v s.psr.c 4 s))

/-- The stores: each writes the low bytes of its register at the aligned address it computes and nothing else
(43_load_store.md R307, R310 to R316, 20_memory.md R104; ST16.B's encoding is log 8). -/
def Obligations.StoreResults : Prop :=
  ∀ s : State,
    (∀ (rz rx : BitVec 3) (d : BitVec 5),
      StoresTo (.st16b rz rx d) (s.reg (lowReg rz)) .byte (s.reg (lowReg rx) + BitVec.ofNat 32 d.toNat) 2 s ∧
      StoresTo (.st16h rz rx d) (s.reg (lowReg rz)) .half (s.reg (lowReg rx) + BitVec.ofNat 32 (2 * d.toNat)) 2 s ∧
      StoresTo (.st16w rz rx d) (s.reg (lowReg rz)) .word (s.reg (lowReg rx) + BitVec.ofNat 32 (4 * d.toNat)) 2 s) ∧
    (∀ (rz d3 : BitVec 3) (d5 : BitVec 5),
      StoresTo (.st16wSp rz d3 d5) (s.reg (lowReg rz)) .word
        (s.reg 14 + BitVec.ofNat 32 (4 * (32 * d3.toNat + d5.toNat))) 2 s) ∧
    (∀ (rz rx : BitVec 4) (d : BitVec 12),
      StoresTo (.st32b rz rx d) (s.reg rz) .byte (s.reg rx + BitVec.ofNat 32 d.toNat) 4 s ∧
      StoresTo (.st32h rz rx d) (s.reg rz) .half (s.reg rx + BitVec.ofNat 32 (2 * d.toNat)) 4 s ∧
      StoresTo (.st32w rz rx d) (s.reg rz) .word (s.reg rx + BitVec.ofNat 32 (4 * d.toNat)) 4 s)

/-- A load or store whose access is misaligned while MM = 0 raises vector 1; one whose aligned access is denied raises
vector 2; either leaves registers and memory as they were (20_memory.md R103 to R105, 43_load_store.md R308, R309). A denied
read of POP16, IPOP16 or NIR16, after any number of permitted ones, raises vector 2 with no register and no SP changed
(43_load_store.md R323, 44_privileged_special.md R349; the order of the reads is decision D29, log 23). Vector 8 while EE =
0 is 60_exceptions.md R420; C set before PSR is saved in an IDLY sequence is decision D32 (log 25). Nothing is prefetched
after the entry (20_memory.md R133, D23, log 22). -/
def Obligations.FaultingAccessTraps : Prop :=
  (∀ (i : Instr) (s : State) (kind : AccessKind) (sz : Size) (a : Word), dataAccess i s = some (kind, sz, a) →
    (misaligned sz a = true → s.psr.mm = false → VectorReadable s (entryVector s 1) → Raises (exec i s) 1 s) ∧
    (misaligned sz a = false ∨ s.psr.mm = true →
      accessVerdict s kind s.psr.s (alignDown sz a) sz.bytes = .deny →
      VectorReadable s (entryVector s 2) → Raises (exec i s) 2 s)) ∧
  (∀ (i : Instr) (s : State) (n j : Nat), stackLoads i = some n → (isPrivileged i = true → s.psr.s = true) →
    (s.reg 14).toNat % 4 = 0 → j < n → WordsPermitted s .read (s.reg 14) j →
    accessVerdict s .read s.psr.s (s.reg 14 + BitVec.ofNat 32 (4 * j)) 4 = .deny →
    VectorReadable s (entryVector s 2) → Raises (exec i s) 2 s)

/-- PUSH16: r4 to r(3+n), then r15, at rising addresses below SP, SP lowered, nothing else changed (43_load_store.md R320,
R321, R327; the layout and the empty list are decisions D34 and D28, logs 23 and 28). -/
def Obligations.PushResults : Prop :=
  ∀ (s : State) (r15 : BitVec 1) (n : Nat) (i : Instr),
    (∃ list1 : BitVec 3, i = .push16 r15 list1 ∧ n = list1.toNat) ∨ (i = .push16List8 r15 ∧ n = 8) →
    s.mem.wf = true → (s.reg 14).toNat % 4 = 0 →
    WordsPermitted s .write (s.reg 14 - BitVec.ofNat 32 (4 * (n + r15.toNat))) (n + r15.toNat) →
    Completes i s fun t =>
      (∀ k < n, WordStored (s.reg 14 - BitVec.ofNat 32 (4 * (n + r15.toNat))) k (s.reg (BitVec.ofNat 4 (4 + k))) t) ∧
      (r15 = 1 → WordStored (s.reg 14 - BitVec.ofNat 32 (4 * (n + r15.toNat))) n (s.reg 15) t) ∧
      MemOnlyWords (s.reg 14 - BitVec.ofNat 32 (4 * (n + r15.toNat))) (n + r15.toNat) s t ∧
      t.reg 14 = s.reg 14 - BitVec.ofNat 32 (4 * (n + r15.toNat)) ∧ (∀ k : Reg, k ≠ 14 → t.reg k = s.reg k) ∧
      t.pc = s.pc + 2 ∧ t.psr.c = s.psr.c ∧ SameSystem s t

/-- POP16: r4 to r(3+n), then r15, from rising addresses at SP, SP raised, and the jump to r15, in the list or not
(43_load_store.md R320, R322, R327; the empty list is decision D28, log 28), after which nothing is prefetched any more
(20_memory.md R133, D23, log 22). -/
def Obligations.PopResults : Prop :=
  ∀ (s : State) (r15 : BitVec 1) (n : Nat) (i : Instr),
    (∃ list1 : BitVec 3, i = .pop16 r15 list1 ∧ n = list1.toNat) ∨ (i = .pop16List8 r15 ∧ n = 8) →
    (s.reg 14).toNat % 4 = 0 → WordsPermitted s .read (s.reg 14) (n + r15.toNat) →
    Completes i s fun t =>
      (∀ k < n, ∃ v, WordStored (s.reg 14) k v s ∧
        t.reg (BitVec.ofNat 4 (4 + k)) = if 9 ≤ 4 + k then 0 else v) ∧
      (r15 = 1 → WordStored (s.reg 14) n (t.reg 15) s) ∧ (r15 = 0 → t.reg 15 = s.reg 15) ∧
      (∀ k : Reg, (k.toNat < 4 ∨ 4 + n ≤ k.toNat) → k ≠ 14 → k ≠ 15 → t.reg k = s.reg k) ∧
      t.reg 14 = s.reg 14 + BitVec.ofNat 32 (4 * (n + r15.toNat)) ∧
      t.pc = t.reg 15 &&& 0xFFFFFFFE ∧ t.psr.c = s.psr.c ∧ (∀ a : Word, t.mem.read a = s.mem.read a) ∧
      SameSystem { s with window := [] } t

/-- IPUSH16 stores R0 to R3, 0 for R12, and R13 at SP-24 to SP-4 and lowers SP; IPOP16 loads them back from SP to SP+20,
drops the word of R12 and raises SP; nothing else changes (43_load_store.md R324, R325). -/
def Obligations.InterruptPushAndPopResults : Prop :=
  (∀ s : State, s.mem.wf = true → (s.reg 14).toNat % 4 = 0 → WordsPermitted s .write (s.reg 14 - 24) 6 →
    Completes .ipush16 s fun t =>
      (∀ k < 4, WordStored (s.reg 14 - 24) k (s.reg (BitVec.ofNat 4 k)) t) ∧ WordStored (s.reg 14 - 24) 4 0 t ∧
      WordStored (s.reg 14 - 24) 5 (s.reg 13) t ∧ MemOnlyWords (s.reg 14 - 24) 6 s t ∧
      t.reg 14 = s.reg 14 - 24 ∧ (∀ k : Reg, k ≠ 14 → t.reg k = s.reg k) ∧
      t.pc = s.pc + 2 ∧ t.psr.c = s.psr.c ∧ SameSystem s t) ∧
  (∀ s : State, (s.reg 14).toNat % 4 = 0 → WordsPermitted s .read (s.reg 14) 6 →
    Completes .ipop16 s fun t =>
      (∀ k < 4, WordStored (s.reg 14) k (t.reg (BitVec.ofNat 4 k)) s) ∧ WordStored (s.reg 14) 5 (t.reg 13) s ∧
      (∀ k : Reg, 4 ≤ k.toNat → k ≠ 13 → k ≠ 14 → t.reg k = s.reg k) ∧ t.reg 14 = s.reg 14 + 24 ∧
      t.pc = s.pc + 2 ∧ t.psr.c = s.psr.c ∧ (∀ a : Word, t.mem.read a = s.mem.read a) ∧ SameSystem s t)

/-- A store of PUSH16, IPUSH16 or NIE16 that is denied after permitted ones: the words before it are written (of NIE16, EPC
at SP-4 before EPSR at SP-8), no later one, no general register, no SP and no EE or IE of the instruction's own, and vector
2 is entered at the instruction (43_load_store.md R323, 44_privileged_special.md R348, decision D29; log 23). Vector 8 while
EE = 0 is 60_exceptions.md R420; C set before PSR is saved in an IDLY sequence is decision D32 (log 25). Nothing is
prefetched after the entry (20_memory.md R133, D23, log 22). -/
def Obligations.PushFaultKeepsEarlierStores : Prop :=
  (∀ (s : State) (r15 : BitVec 1) (n j : Nat) (i : Instr),
    (∃ list1 : BitVec 3, i = .push16 r15 list1 ∧ n = list1.toNat) ∨ (i = .push16List8 r15 ∧ n = 8) →
    s.mem.wf = true → (s.reg 14).toNat % 4 = 0 → j < n + r15.toNat →
    WordsPermitted s .write (s.reg 14 - BitVec.ofNat 32 (4 * (n + r15.toNat))) j →
    accessVerdict s .write s.psr.s (s.reg 14 - BitVec.ofNat 32 (4 * (n + r15.toNat)) + BitVec.ofNat 32 (4 * j)) 4 = .deny →
    VectorReadable s (entryVector s 2) →
    ∃ m : Memory, Raises (exec i s) 2 (s.setMem m) ∧
      (∀ k < j, WordStored (s.reg 14 - BitVec.ofNat 32 (4 * (n + r15.toNat))) k (s.reg (BitVec.ofNat 4 (4 + k)))
        (s.setMem m)) ∧
      MemOnlyWords (s.reg 14 - BitVec.ofNat 32 (4 * (n + r15.toNat))) j s (s.setMem m)) ∧
  (∀ (s : State) (j : Nat), s.mem.wf = true → (s.reg 14).toNat % 4 = 0 → j < 6 →
    WordsPermitted s .write (s.reg 14 - 24) j →
    accessVerdict s .write s.psr.s (s.reg 14 - 24 + BitVec.ofNat 32 (4 * j)) 4 = .deny →
    VectorReadable s (entryVector s 2) →
    ∃ m : Memory, Raises (exec .ipush16 s) 2 (s.setMem m) ∧
      (∀ k < j, WordStored (s.reg 14 - 24) k (if k < 4 then s.reg (BitVec.ofNat 4 k) else 0) (s.setMem m)) ∧
      MemOnlyWords (s.reg 14 - 24) j s (s.setMem m)) ∧
  (∀ s : State, s.psr.s = true → s.mem.wf = true → (s.reg 14).toNat % 4 = 0 → VectorReadable s (entryVector s 2) →
    (accessVerdict s .write s.psr.s (s.reg 14 - 4) 4 = .deny → Raises (exec .nie16 s) 2 s) ∧
    (accessVerdict s .write s.psr.s (s.reg 14 - 4) 4 = .permit →
      accessVerdict s .write s.psr.s (s.reg 14 - 8) 4 = .deny →
      ∃ m : Memory, Raises (exec .nie16 s) 2 (s.setMem m) ∧ WordStored (s.reg 14 - 4) 0 s.epc (s.setMem m) ∧
        MemOnlyWords (s.reg 14 - 4) 1 s (s.setMem m)))

/-- The multi-access instructions raise vector 1 when SP is not a multiple of 4, whatever MM is, before any access
(20_memory.md R107). Vector 8 while EE = 0 is 60_exceptions.md R420; C set before PSR is saved in an IDLY sequence is
decision D32 (log 25). Nothing is prefetched after the entry (20_memory.md R133, D23, log 22). -/
def Obligations.MisalignedStackPointerTraps : Prop :=
  ∀ (i : Instr) (s : State), isMultiAccess i = true → (isPrivileged i = true → s.psr.s = true) →
    (s.reg 14).toNat % 4 ≠ 0 → VectorReadable s (entryVector s 1) → Raises (exec i s) 1 s

/-! System instructions -/

/-- NIE16 saves EPC at SP-4 and EPSR at SP-8, lowers SP and sets EE and IE; nothing else changes (44_privileged_special.md
R348; the image of EPSR is logs 5 and 26). -/
def Obligations.NestEnterResults : Prop :=
  ∀ s : State, s.psr.s = true → s.mem.wf = true → (s.reg 14).toNat % 4 = 0 → WordsPermitted s .write (s.reg 14 - 8) 2 →
    Completes .nie16 s fun t =>
      WordStored (s.reg 14 - 8) 0 (readCr s 2 0) t ∧ WordStored (s.reg 14 - 8) 1 s.epc t ∧
      MemOnlyWords (s.reg 14 - 8) 2 s t ∧ t.reg 14 = s.reg 14 - 8 ∧ (∀ k : Reg, k ≠ 14 → t.reg k = s.reg k) ∧
      t.psr = { s.psr with ee := true, ie := true } ∧ t.pc = s.pc + 2 ∧ SameSystem { s with psr := t.psr } t

/-- NIR16 loads EPSR and EPC from the stack, raises SP, and returns as RTE32 does (44_privileged_special.md R349; the image
of EPSR is logs 5 and 26). That it ends an IDLY sequence is decision D32 (R352, log 25); nothing is prefetched any more
(20_memory.md R133, D23, log 22). -/
def Obligations.NestReturnResults : Prop :=
  ∀ s : State, s.psr.s = true → (s.reg 14).toNat % 4 = 0 → WordsPermitted s .read (s.reg 14) 2 →
    ∃ w0 w1, WordStored (s.reg 14) 0 w0 s ∧ WordStored (s.reg 14) 1 w1 s ∧
      Completes .nir16 s fun t =>
        t.epsr = Psr.ofImage w0 ∧ t.epc = w1 ∧ t.psr = t.epsr ∧ t.pc = w1 &&& 0xFFFFFFFE ∧ t.idlyCnt = 0 ∧
        t.reg 14 = s.reg 14 + 8 ∧ (∀ k : Reg, k ≠ 14 → t.reg k = s.reg k) ∧
        (∀ a : Word, t.mem.read a = s.mem.read a) ∧
        SameSystem { s with epsr := t.epsr, epc := t.epc, psr := t.psr, idlyCnt := 0, window := [] } t

/-- RTE32 restores PSR from EPSR and the pc from EPC with bit 0 dropped; EPSR, EPC, registers and memory keep their values
(44_privileged_special.md R347). That it ends an IDLY sequence is decision D32 (R352, log 25); nothing is prefetched any
more (20_memory.md R133, D23, log 22). -/
def Obligations.ReturnFromExceptionResults : Prop :=
  ∀ s : State, s.psr.s = true →
    Completes .rte32 s fun t =>
      t.psr = s.epsr ∧ t.pc = s.epc &&& 0xFFFFFFFE ∧ t.idlyCnt = 0 ∧ (∀ k : Reg, t.reg k = s.reg k) ∧
      (∀ a : Word, t.mem.read a = s.mem.read a) ∧ SameSystem { s with psr := s.epsr, idlyCnt := 0, window := [] } t

/-- Returning right after an exception entry goes back to the instruction and its PSR (60_exceptions.md R410, R439,
44_privileged_special.md R347), with C set where an IDLY sequence was open, which is decision D32 (log 25). -/
def Obligations.ReturnUndoesExceptionEntry : Prop :=
  ∀ (s t : State) (v : BitVec 8) (isIrq : Bool), s.pc.getLsbD 0 = false →
    TookException v isIrq s.pc s t →
    Completes .rte32 t fun u =>
      u.pc = s.pc ∧ u.psr = { s.psr with c := s.psr.c || (decide (0 < s.idlyCnt) && !isIrq) } ∧
      (∀ k : Reg, u.reg k = s.reg k) ∧ (∀ a : Word, u.mem.read a = s.mem.read a) ∧ u.idlyCnt = 0

/-- MFCR32 in supervisor mode writes the read view of the control register, and nothing else (44_privileged_special.md R343).
-/
def Obligations.ReadControlRegisterResults : Prop :=
  ∀ (s : State) (rz : BitVec 4) (crx sel : BitVec 5), s.psr.s = true →
    Completes (.mfcr32 rz crx sel) s (WritesReg rz (readCr s crx sel) s.psr.c 4 s)

/-- The read views: PSR and EPSR by their fields, EPC, CPUIDR, CCR, CAPR, the region register PRSR selects, PRSR, CHR; 0 for
an absent register, an unlisted number and every other selector (10_state.md R42 to R75, 44_privileged_special.md R343). The
places of the fields are logs 5, 6 and 7; reading 0 is decision D6, log 26. GCR where present and GSR reading 0 are decision
D10 (log 35, the model's choice); VBR reading 0 is decision D5 (log 42). -/
def Obligations.ControlRegisterViews : Prop :=
  ∀ s : State,
    (readCr s 0 0).toNat = s.psr.s.toNat * 2 ^ 31 + s.psr.vec.toNat * 2 ^ 16 + s.psr.mm.toNat * 2 ^ 9 +
      s.psr.ee.toNat * 2 ^ 8 + s.psr.ic.toNat * 2 ^ 7 + s.psr.ie.toNat * 2 ^ 6 + s.psr.c.toNat ∧
    (readCr s 2 0).toNat = s.epsr.s.toNat * 2 ^ 31 + s.epsr.vec.toNat * 2 ^ 16 + s.epsr.mm.toNat * 2 ^ 9 +
      s.epsr.ee.toNat * 2 ^ 8 + s.epsr.ic.toNat * 2 ^ 7 + s.epsr.ie.toNat * 2 ^ 6 + s.epsr.c.toNat ∧
    readCr s 4 0 = s.epc ∧ readCr s 13 0 = s.cfg.cpuid ∧
    (s.cfg.mpuRegions ≠ 0 → (readCr s 18 0).toNat = s.cfg.beV2.toNat * 2 ^ 13 + s.cfg.sck.toNat * 2 ^ 8 +
      (if s.cfg.endian = .big then 2 ^ 7 else 0) + s.mp.toNat ∧
      readCr s 19 0 = s.capr ∧ (readCr s 21 0).toNat = s.rid.toNat) ∧
    (∀ n : Fin 8, s.rid.toNat = n.val → n.val < s.cfg.mpuRegions.val →
      (readCr s 20 0).toNat = s.pacr[n.val].base.toNat * 2 ^ 10 + s.pacr[n.val].size.toNat * 2 + s.pacr[n.val].e.toNat) ∧
    (s.cfg.mpuRegions.val ≤ s.rid.toNat → readCr s 20 0 = 0) ∧
    (readCr s 31 0).toNat = s.iae.toNat * 2 ^ 4 ∧
    (∀ n sel : BitVec 5, sel ≠ 0 ∨ n.toNat ∉ [0, 2, 4, 11, 13, 18, 19, 20, 21, 31] → readCr s n sel = 0) ∧
    (s.cfg.mpuRegions = 0 → (readCr s 18 0).toNat = s.cfg.beV2.toNat * 2 ^ 13 + s.cfg.sck.toNat * 2 ^ 8 +
      (if s.cfg.endian = .big then 2 ^ 7 else 0) ∧ readCr s 19 0 = 0 ∧ readCr s 21 0 = 0) ∧
    (readCr s 11 0 = if s.cfg.gcrGsrPresent = true then s.gcr else 0)

/-- MTCR32 in supervisor mode to each control register: which field it writes, and that the state is otherwise as before but
for the pc (44_privileged_special.md R344). The places of the fields are logs 5, 6 and 7; the unlisted numbers are decision
D6, log 26; the refusal of a value with CCR.MP[1] = 1 is log 13. GCR where present and GSR are decision D10 (log 35, the
model's choice); VBR without effect is decision D5 (log 42). -/
def Obligations.WriteControlRegisterResults : Prop :=
  ∀ (s : State) (rx : BitVec 4), s.psr.s = true →
    exec (.mtcr32 rx 0 0) s = .next { s with psr := Psr.ofImage (s.reg rx), pc := s.pc + 4 } ∧
    exec (.mtcr32 rx 2 0) s = .next { s with epsr := Psr.ofImage (s.reg rx), pc := s.pc + 4 } ∧
    exec (.mtcr32 rx 4 0) s = .next { s with epc := s.reg rx, pc := s.pc + 4 } ∧
    (s.cfg.mpuRegions ≠ 0 → (s.reg rx).getLsbD 1 = false →
      exec (.mtcr32 rx 18 0) s = .next { s with mp := (s.reg rx).extractLsb' 0 2, pc := s.pc + 4 }) ∧
    (s.cfg.mpuRegions ≠ 0 → exec (.mtcr32 rx 19 0) s =
      .next { s with capr := s.reg rx &&& caprMask s.cfg.mpuRegions, pc := s.pc + 4 }) ∧
    (∀ n : Fin 8, s.rid.toNat = n.val → n.val < s.cfg.mpuRegions.val → exec (.mtcr32 rx 20 0) s =
      .next { s with pacr := s.pacr.set n.val (Pacr.ofImage (s.reg rx)) n.isLt, pc := s.pc + 4 }) ∧
    (s.cfg.mpuRegions ≠ 0 → exec (.mtcr32 rx 21 0) s =
      .next { s with rid := (s.reg rx).extractLsb' 0 3, pc := s.pc + 4 }) ∧
    (s.cfg.hasNestInt = true → (s.reg rx).extractLsb' 16 16 ≠ s.cfg.srstMagic → exec (.mtcr32 rx 31 0) s =
      .next { s with iae := (s.reg rx).getLsbD 4, pc := s.pc + 4 }) ∧
    (s.cfg.mpuRegions ≠ 0 → (s.reg rx).getLsbD 1 = true → exec (.mtcr32 rx 18 0) s = .refused .reservedMp) ∧
    (exec (.mtcr32 rx 11 0) s =
      .next { s with gcr := if s.cfg.gcrGsrPresent = true then s.reg rx else s.gcr, pc := s.pc + 4 }) ∧
    (∀ crz : BitVec 5, s.cfg.mpuRegions = 0 → crz.toNat ∈ [18, 19, 20, 21] →
      exec (.mtcr32 rx crz 0) s = .next { s with pc := s.pc + 4 }) ∧
    (s.cfg.mpuRegions.val ≤ s.rid.toNat → exec (.mtcr32 rx 20 0) s = .next { s with pc := s.pc + 4 }) ∧
    (s.cfg.hasNestInt = false → (s.reg rx).extractLsb' 16 16 ≠ s.cfg.srstMagic →
      exec (.mtcr32 rx 31 0) s = .next { s with pc := s.pc + 4 }) ∧
    (∀ crz sel : BitVec 5, sel ≠ 0 ∨ crz.toNat ∉ [0, 2, 4, 11, 18, 19, 20, 21, 31] →
      exec (.mtcr32 rx crz sel) s = .next { s with pc := s.pc + 4 })

/-- Every value MTCR32 writes reads back under the mask of the register's implemented bits, for PSR, EPSR, EPC, CAPR with any
number of regions, PACR, PRSR, CCR.MP with the other bits of CCR kept, and CHR.IAE (10_state.md R45, R54, R55, R63, R64, R68,
R72, R75); and for GCR where present (decision D10, log 35, the model's choice). Places and reserved bits are logs 5, 6, 7 and
26. -/
def Obligations.ControlRegisterWriteReadsBack : Prop :=
  ∀ (s : State) (v : Word),
    (∀ t, writeCr 0 0 v s = .ok t → readCr t 0 0 = v &&& 0x80FF03C1) ∧
    (∀ t, writeCr 2 0 v s = .ok t → readCr t 2 0 = v &&& 0x80FF03C1) ∧
    (∀ t, writeCr 4 0 v s = .ok t → readCr t 4 0 = v) ∧
    (∀ t, writeCr 19 0 v s = .ok t → readCr t 19 0 = v &&& caprMask s.cfg.mpuRegions) ∧
    (∀ n : Nat, n < 8 →
      ((caprMask s.cfg.mpuRegions).getLsbD n = true ↔ n < s.cfg.mpuRegions.val) ∧
      ((caprMask s.cfg.mpuRegions).getLsbD (8 + 2 * n) = true ↔ n < s.cfg.mpuRegions.val) ∧
      ((caprMask s.cfg.mpuRegions).getLsbD (9 + 2 * n) = true ↔ n < s.cfg.mpuRegions.val) ∧
      ((caprMask s.cfg.mpuRegions).getLsbD (24 + n) = true ↔ n < s.cfg.mpuRegions.val)) ∧
    (∀ t, s.cfg.mpuRegions = 8 → writeCr 19 0 v s = .ok t → readCr t 19 0 = v) ∧
    (∀ t, s.cfg.mpuRegions = 4 → writeCr 19 0 v s = .ok t → readCr t 19 0 = v &&& 0x0F00FF0F) ∧
    (∀ t, s.rid.toNat < s.cfg.mpuRegions.val → writeCr 20 0 v s = .ok t → readCr t 20 0 = v &&& 0xFFFFFC3F) ∧
    (∀ t, s.cfg.mpuRegions ≠ 0 → writeCr 21 0 v s = .ok t → readCr t 21 0 = v &&& 7) ∧
    (∀ t, s.cfg.mpuRegions ≠ 0 → writeCr 18 0 v s = .ok t →
      readCr t 18 0 = (readCr s 18 0 &&& 0xFFFFFFFC) ||| (v &&& 3)) ∧
    (∀ t, s.cfg.hasNestInt = true → writeCr 31 0 v s = .ok t → readCr t 31 0 = v &&& 0x10) ∧
    (∀ t, s.cfg.gcrGsrPresent = true → writeCr 11 0 v s = .ok t → readCr t 11 0 = v)

/-- A write of the key to CHR.SRST_VAL with EE = 1 resets the machine, and with EE = 0 enters vector 8 at the MTCR32
(10_state.md R74, 70_reset_and_hazards.md R472, R473; the place of the field is log 7, D13 and D15 log 4). In the second
case C set before PSR is saved in an IDLY sequence is decision D32 (log 25). Nothing is prefetched after the entry
(20_memory.md R133, D23, log 22). -/
def Obligations.SoftwareResetKeyResets : Prop :=
  ∀ (s : State) (rx : BitVec 4), s.psr.s = true → (s.reg rx).toNat / 2 ^ 16 = s.cfg.srstMagic.toNat →
    (s.psr.ee = true → busError s.cfg .fetch 0 4 = false → inTcip s.cfg 0 4 = false →
      Completes (.mtcr32 rx 31 0) s (ResetDone s)) ∧
    (s.psr.ee = false → VectorReadable s 8 → Raises (exec (.mtcr32 rx 31 0) s) 8 s)

/-- PSRSET32 and PSRCLR32 in supervisor mode set or clear EE by IMM5[3] and IE by IMM5[2] and nothing else
(44_privileged_special.md R345, R346; IMM5[4] is decision D38, log 39). -/
def Obligations.PsrSetAndClearResults : Prop :=
  ∀ (s : State) (imm5 : BitVec 5), s.psr.s = true →
    Completes (.psrset32 imm5) s (fun t =>
      t.psr.ee = (imm5.getLsbD 3 || s.psr.ee) ∧ t.psr.ie = (imm5.getLsbD 2 || s.psr.ie) ∧
      t = { s with psr := { s.psr with ee := t.psr.ee, ie := t.psr.ie }, pc := s.pc + 4 }) ∧
    Completes (.psrclr32 imm5) s (fun t =>
      t.psr.ee = (!imm5.getLsbD 3 && s.psr.ee) ∧ t.psr.ie = (!imm5.getLsbD 2 && s.psr.ie) ∧
      t = { s with psr := { s.psr with ee := t.psr.ee, ie := t.psr.ie }, pc := s.pc + 4 })

/-- WAIT32, DOZE32, STOP32 in supervisor mode complete, end an IDLY sequence and stop the clock (44_privileged_special.md
R353 to R355; that they end the sequence is decision D32, log 25; the encodings of DOZE32 and STOP32 are log 8). The
halfwords prefetched stay (log 22). -/
def Obligations.LowPowerEntryResults : Prop :=
  ∀ s : State, s.psr.s = true →
    (∀ i r, (i = Instr.wait32 ∧ r = RunState.wait) ∨ (i = Instr.doze32 ∧ r = RunState.doze) ∨
        (i = Instr.stop32 ∧ r = RunState.stop) →
      Completes i s fun t => t.runState = r ∧ t.idlyCnt = 0 ∧ t.pc = s.pc + 4 ∧ t.psr = s.psr ∧
        (∀ k : Reg, t.reg k = s.reg k) ∧ (∀ a : Word, t.mem.read a = s.mem.read a) ∧
        SameSystem { s with runState := r, idlyCnt := 0 } t)

/-- IDLY32 outside a sequence arms 4 for IMM5 up to 3, else IMM5 + 1, and clears C; inside one it only goes on
(44_privileged_special.md R352; the second half is decision D32, log 25). -/
def Obligations.InterruptDelayResults : Prop :=
  ∀ (s : State) (imm5 : BitVec 5),
    (s.idlyCnt = 0 → Completes (.idly32 imm5) s fun t =>
      t.idlyCnt = (if imm5.toNat ≤ 3 then 4 else imm5.toNat + 1) ∧
      WritesFlagAndPc false (s.pc + 4) { s with idlyCnt := t.idlyCnt } t) ∧
    (s.idlyCnt ≠ 0 → Completes (.idly32 imm5) s (WritesFlagAndPc s.psr.c (s.pc + 4) s))

/-- SYNC32, the word 0xC0000420, changes the pc alone, in either mode (44_privileged_special.md R356; its encoding is log 8).
-/
def Obligations.SyncChangesThePcAlone : Prop :=
  ∀ (s : State), decodeWord s.cfg (.full 0xC0000420#32) = .ok .sync32 ∧
    Completes .sync32 s (WritesFlagAndPc s.psr.c (s.pc + 4) s)
end

