-- ==== Sys2Proof/Laws/Decode.lean ====
section
/-! SUPPORT. The rows of the opcode list are told apart by their fixed bits (30_encoding.md R153, R185), so that a word
that matches a row is read by that row. -/

namespace Sys2Proof

/-- Two rows differ in a bit that both fix. -/
def Row.Apart {n : Nat} (r q : Row n) : Prop := (r.pattern ^^^ q.pattern) &&& (r.mask &&& q.mask) ≠ 0

theorem Row.not_hits_of_apart {n : Nat} {r q : Row n} (h : r.Apart q) {w : BitVec n} (hr : r.hits w = true) :
    q.hits w = false := by
  by_contra hq
  simp only [Bool.not_eq_false, Row.hits, beq_iff_eq] at hq hr
  apply h
  rw [← hq, ← hr]
  ext i hi
  simp only [BitVec.getElem_and, BitVec.getElem_xor]
  cases w[i] <;> cases r.mask[i] <;> cases q.mask[i] <;> simp

/-- Among rows that lie apart, a row that matches is the one that is read. -/
theorem lookup_eq_of_hit {n : Nat} {rows : List (Row n)} (hd : rows.Pairwise Row.Apart) {r : Row n} (hr : r ∈ rows)
    {w : BitVec n} (hh : r.hits w = true) : lookup rows w = some (r.build w) := by
  induction rows with
  | nil => cases hr
  | cons q rest ih =>
    rw [List.pairwise_cons] at hd
    rcases List.mem_cons.mp hr with rfl | hmem
    · simp [lookup, List.find?, hh]
    · have hq : q.hits w = false := by
        by_contra hc
        rw [Row.not_hits_of_apart (hd.1 r hmem) (by simpa using hc)] at hh
        cases hh
      have := ih hd.2 hmem
      simp only [lookup, List.find?, hq] at this ⊢
      exact this

/-- What is read comes from a row that matches. -/
theorem exists_row_of_lookup {n : Nat} {rows : List (Row n)} {w : BitVec n} {i : Instr} (h : lookup rows w = some i) :
    ∃ r ∈ rows, r.hits w = true ∧ r.build w = i := by
  unfold lookup at h
  rw [Option.map_eq_some_iff] at h
  obtain ⟨r, hf, hb⟩ := h
  exact ⟨r, List.mem_of_find?_eq_some hf, List.find?_some (p := fun q : Row n => q.hits w) hf, hb⟩

/-- All 16-bit rows but BKPT16, and the second JSR16 pattern, lie apart. -/
theorem rows16_apart : (rows16.tail ++ [jsr16AltRow]).Pairwise Row.Apart := by
  unfold Row.Apart
  decide +kernel

/-- The 32-bit rows lie apart. -/
theorem rows32_apart : rows32.Pairwise Row.Apart := by
  unfold Row.Apart
  decide +kernel

/-- The rows of a configuration are BKPT16 and rows among those that lie apart. -/
theorem rows16Of_tail (c : Config) : (rows16Of c).tail.Pairwise Row.Apart := by
  have h : (rows16Of c).tail.Sublist (rows16.tail ++ [jsr16AltRow]) := by
    unfold rows16Of
    split
    · rw [List.tail_append_of_ne_nil (by simp [rows16, rowsLow])]
    · exact List.sublist_append_left _ _
  exact rows16_apart.sublist h

/-- A 16-bit word other than zero is read by any row that matches it. -/
theorem lookup_rows16Of {c : Config} {r : Row 16} (hr : r ∈ (rows16Of c).tail) {w : Half} (hw : w ≠ 0)
    (hh : r.hits w = true) : lookup (rows16Of c) w = some (r.build w) := by
  have hcons : ∃ b : Row 16, b.hits w = false ∧ rows16Of c = b :: (rows16Of c).tail := by
    refine ⟨⟨0xFFFF#16, 0x0000#16, fun _ => .bkpt16⟩, ?_, ?_⟩
    · simp only [Row.hits, beq_eq_false_iff_ne, ne_eq]
      intro h
      have hall : w &&& 65535#16 = w := by
        apply BitVec.eq_of_getLsbD_eq
        intro i hi
        interval_cases i <;> simp
      exact hw (hall.symm.trans h)
    · unfold rows16Of
      split <;> rfl
  obtain ⟨b, hb, hc⟩ := hcons
  rw [hc]
  have := lookup_eq_of_hit (rows16Of_tail c) hr hh
  simp only [lookup, List.find?, hb] at this ⊢
  exact this

/-- The word zero is BKPT16 (30_encoding.md R185). -/
theorem lookup_zero (c : Config) : lookup (rows16Of c) 0x0000#16 = some .bkpt16 := by
  unfold rows16Of
  split <;> rfl

/-- A 32-bit word is read by any row that matches it. -/
theorem lookup_rows32 {r : Row 32} (hr : r ∈ rows32) {w : Word} (hh : r.hits w = true) :
    lookup rows32 w = some (r.build w) := lookup_eq_of_hit rows32_apart hr hh

/-- A 16-bit word that matches a row decodes to what the row builds, where the configuration has it. -/
theorem decodeWord_half_of_row {c : Config} {w : Half} (r : Row 16) (hr : r ∈ rows16.tail) (hw : w ≠ 0)
    (hh : w &&& r.mask = r.pattern) (hn : ((r.build w).needsNestInt && !c.hasNestInt) = false) :
    decodeWord c (.half w) = .ok (r.build w) := by
  have hr' : r ∈ (rows16Of c).tail := by
    unfold rows16Of
    split
    · rw [List.tail_append_of_ne_nil (by simp [rows16, rowsLow])]
      exact List.mem_append_left _ hr
    · exact hr
  simp only [decodeWord, lookup_rows16Of hr' hw (by simpa [Row.hits] using hh), hn]
  rfl

/-- A 32-bit word that matches a row decodes to what the row builds. -/
theorem decodeWord_full_of_row {c : Config} {w : Word} (r : Row 32) (hr : r ∈ rows32) (hh : w &&& r.mask = r.pattern) :
    decodeWord c (.full w) = .ok (r.build w) := by
  simp only [decodeWord, lookup_rows32 hr (by simpa [Row.hits] using hh)]

/-- The bytes of a halfword put together again, in either byte order. -/
theorem joinHalf_halfBytes (e : Endian) (h : Half) :
    ∃ b0 b1, halfBytes e h = [b0, b1] ∧ joinHalf e b0 b1 = h := by
  cases e
  · refine ⟨_, _, rfl, ?_⟩
    simp only [joinHalf]
    apply BitVec.eq_of_getLsbD_eq
    intro i hi
    interval_cases i <;> simp only [BitVec.getLsbD_append, BitVec.getLsbD_extractLsb'] <;> simp
  · refine ⟨_, _, rfl, ?_⟩
    simp only [joinHalf]
    apply BitVec.eq_of_getLsbD_eq
    intro i hi
    interval_cases i <;> simp only [BitVec.getLsbD_append, BitVec.getLsbD_extractLsb'] <;> simp

end Sys2Proof
end

