-- ==== Sys2Proof/Laws/Memory.lean ====
section
/-! SUPPORT. The memory laws: every write keeps the canonical form, a read after a write gives the byte written, every other
byte is unchanged, and equal contents are equal data. -/

namespace Sys2Proof.Machine

theorem cellsFrom_cons (low : Nat) (c : Host.Cell) (rest : List Host.Cell) :
    cellsFrom low (c :: rest) = true ↔
      low ≤ c.1 ∧ c.1 < 2 ^ 32 ∧ c.2 ≠ Memory.unlisted ∧ cellsFrom (c.1 + 1) rest = true := by
  simp [cellsFrom, and_assoc]

theorem cellsFrom_mono {low low' : Nat} {cs : List Host.Cell} (h : cellsFrom low cs = true) (hl : low' ≤ low) :
    cellsFrom low' cs = true := by
  cases cs with
  | nil => rfl
  | cons c rest =>
    rw [cellsFrom_cons] at h ⊢
    exact ⟨hl.trans h.1, h.2⟩

/-- A key below every listed one reads as unlisted. -/
theorem readCells_below {low k : Nat} {cs : List Host.Cell} (h : cellsFrom low cs = true) (hk : k < low) :
    readCells k cs = Memory.unlisted := by
  induction cs generalizing low with
  | nil => rfl
  | cons c rest ih =>
    rw [cellsFrom_cons] at h
    have hne : k ≠ c.1 := by omega
    simp only [readCells, hne, if_false]
    exact ih h.2.2.2 (by omega)

theorem readCells_cellOf_append (j k : Nat) (b : Byte) (cs : List Host.Cell) (h : readCells k cs = Memory.unlisted) :
    readCells j (cellOf k b ++ cs) = if j = k then b else readCells j cs := by
  unfold cellOf
  split
  · next hb =>
    subst hb
    split
    · next hj => subst hj; simpa using h
    · rfl
  · rfl

/-- The other keys keep their byte. -/
theorem readCells_writeCells_ne {j k : Nat} (h : j ≠ k) (b : Byte) (cs : List Host.Cell) :
    readCells j (writeCells k b cs) = readCells j cs := by
  have hc : ∀ ds : List Host.Cell, readCells j (cellOf k b ++ ds) = readCells j ds := by
    intro ds
    unfold cellOf
    split
    · rfl
    · simp [readCells, h]
  induction cs with
  | nil => simpa [writeCells] using hc []
  | cons c rest ih =>
    simp only [writeCells]
    split
    · exact hc _
    · split
      · next hk => rw [hc]; simp [readCells, ← hk, h]
      · simp only [readCells, ih]

/-- The key written reads back. -/
theorem readCells_writeCells_same {low k : Nat} (b : Byte) {cs : List Host.Cell} (h : cellsFrom low cs = true) :
    readCells k (writeCells k b cs) = b := by
  induction cs generalizing low with
  | nil =>
    have := readCells_cellOf_append k k b [] rfl
    simpa [writeCells] using this
  | cons c rest ih =>
    have h' := h
    rw [cellsFrom_cons] at h'
    simp only [writeCells]
    split
    · next hk =>
      rw [readCells_cellOf_append _ _ _ _
        (readCells_below (cellsFrom_mono (low' := c.1) (by rw [cellsFrom_cons]; exact ⟨le_refl _, h'.2⟩) (le_refl _)) hk)]
      simp
    · split
      · next hk =>
        rw [readCells_cellOf_append _ _ _ _ (readCells_below h'.2.2.2 (by omega))]
        simp
      · next hk => simp only [readCells, hk, if_false]; exact ih h'.2.2.2

/-- A write keeps the canonical form. -/
theorem cellsFrom_writeCells {low k : Nat} (b : Byte) {cs : List Host.Cell} (h : cellsFrom low cs = true) (hl : low ≤ k)
    (hk : k < 2 ^ 32) : cellsFrom low (writeCells k b cs) = true := by
  have hc : ∀ {ds : List Host.Cell}, cellsFrom (k + 1) ds = true → cellsFrom low ds = true →
      cellsFrom low (cellOf k b ++ ds) = true := by
    intro ds h1 h2
    unfold cellOf
    split
    · exact h2
    · next hb => exact (cellsFrom_cons _ _ _).mpr ⟨hl, hk, hb, h1⟩
  induction cs generalizing low with
  | nil => simpa [writeCells] using hc (ds := []) rfl rfl
  | cons c rest ih =>
    have h' := h
    rw [cellsFrom_cons] at h'
    simp only [writeCells]
    split
    · next hlt => exact hc ((cellsFrom_cons _ _ _).mpr ⟨hlt, h'.2⟩) h
    · split
      · next heq =>
        subst heq
        exact hc h'.2.2.2 (cellsFrom_mono h'.2.2.2 (by omega))
      · next h1 h2 =>
        refine (cellsFrom_cons _ _ _).mpr ⟨h'.1, h'.2.1, h'.2.2.1, ih h'.2.2.2 (by omega) ?_⟩
        intro ds h3 h4
        unfold cellOf
        split
        · exact h4
        · next hb => exact (cellsFrom_cons _ _ _).mpr ⟨by omega, hk, hb, h3⟩

/-- Two canonical lists with the same bytes at every key are the same list. -/
theorem cells_ext {low : Nat} {cs ds : List Host.Cell} (hc : cellsFrom low cs = true) (hd : cellsFrom low ds = true)
    (h : ∀ k < 2 ^ 32, readCells k cs = readCells k ds) : cs = ds := by
  induction cs generalizing low ds with
  | nil =>
    cases ds with
    | nil => rfl
    | cons d rest =>
      rw [cellsFrom_cons] at hd
      have := h d.1 hd.2.1
      simp [readCells] at this
      exact absurd this.symm hd.2.2.1
  | cons c cs ih =>
    have hc' := hc
    rw [cellsFrom_cons] at hc'
    cases ds with
    | nil =>
      have := h c.1 hc'.2.1
      simp [readCells] at this
      exact absurd this hc'.2.2.1
    | cons d ds =>
      have hd' := hd
      rw [cellsFrom_cons] at hd'
      have hk : c.1 = d.1 := by
        rcases lt_trichotomy c.1 d.1 with hlt | heq | hgt
        · have h1 := h c.1 hc'.2.1
          rw [readCells_below ((cellsFrom_cons d.1 _ _).mpr ⟨le_refl _, hd'.2⟩) hlt] at h1
          simp [readCells] at h1
          exact absurd h1 hc'.2.2.1
        · exact heq
        · have h1 := h d.1 hd'.2.1
          rw [readCells_below ((cellsFrom_cons c.1 _ _).mpr ⟨le_refl _, hc'.2⟩) hgt] at h1
          simp [readCells] at h1
          exact absurd h1.symm hd'.2.2.1
      have hv : c.2 = d.2 := by
        have h1 := h c.1 hc'.2.1
        simpa [readCells, ← hk] using h1
      have hrest : cs = ds := by
        refine ih hc'.2.2.2 (by rw [hk]; exact hd'.2.2.2) ?_
        intro k hk32
        by_cases hkc : k = c.1
        · rw [readCells_below hc'.2.2.2 (by omega), readCells_below hd'.2.2.2 (by omega)]
        · have h1 := h k hk32
          simpa [readCells, hkc, ← hk] using h1
      rw [hrest, Prod.ext hk hv]

/-- A byte written reads back. -/
theorem Memory.read_write_same {m : Memory} (h : m.wf = true) (a : Word) (b : Byte) : (m.write a b).read a = b :=
  readCells_writeCells_same b h

/-- Every other byte is unchanged. -/
theorem Memory.read_write_ne (m : Memory) {a x : Word} (h : x ≠ a) (b : Byte) : (m.write a b).read x = m.read x :=
  readCells_writeCells_ne (fun he => h (BitVec.eq_of_toNat_eq he)) b _

/-- A write keeps the canonical form. -/
theorem Memory.wf_write {m : Memory} (h : m.wf = true) (a : Word) (b : Byte) : (m.write a b).wf = true :=
  cellsFrom_writeCells b h (Nat.zero_le _) a.isLt

/-- Writes of several bytes keep the canonical form. -/
theorem Memory.wf_writeBytes {m : Memory} (h : m.wf = true) (a : Word) (bs : List Byte) : (m.writeBytes a bs).wf = true := by
  induction bs generalizing m a with
  | nil => exact h
  | cons b bs ih => exact ih (Memory.wf_write h a b) _

/-- Canonical memories with the same bytes are equal. -/
theorem Memory.ext_read {m n : Memory} (hm : m.wf = true) (hn : n.wf = true) (h : ∀ a, m.read a = n.read a) : m = n := by
  have : m.cells = n.cells := by
    refine cells_ext hm hn ?_
    intro k hk
    have := h (BitVec.ofNat 32 k)
    simp only [Memory.read, BitVec.toNat_ofNat, Nat.mod_eq_of_lt hk] at this
    exact this
  cases m; cases n; simp_all

theorem offset_succ {a x : Word} (h : x ≠ a) : (x - (a + 1)).toNat + 1 = (x - a).toNat := by
  bv_omega

/-- What a byte reads as after consecutive bytes are written: the byte at its offset, or what it was. -/
theorem Memory.read_writeBytes {m : Memory} (h : m.wf = true) (a x : Word) (bs : List Byte) (hl : bs.length ≤ 2 ^ 32) :
    (m.writeBytes a bs).read x =
      if hx : (x - a).toNat < bs.length then bs[(x - a).toNat] else m.read x := by
  induction bs generalizing m a with
  | nil => simp [Memory.writeBytes]
  | cons b bs ih =>
    have hlen : bs.length < 2 ^ 32 := by simpa [Nat.succ_le_iff] using hl
    simp only [Memory.writeBytes]
    rw [ih (Memory.wf_write h a b) _ (by omega)]
    by_cases hxa : x = a
    · subst hxa
      have h1 : (x - (x + 1)).toNat = 2 ^ 32 - 1 := by bv_omega
      have h2 : ¬ (x - (x + 1)).toNat < bs.length := by omega
      rw [dif_neg h2, Memory.read_write_same h]
      simp
    · have h1 := offset_succ hxa
      rw [Memory.read_write_ne _ hxa]
      by_cases hb : (x - (a + 1)).toNat < bs.length
      · have h2 : (x - a).toNat < (b :: bs).length := by simp only [List.length_cons]; omega
        simp only [hb, h2, dif_pos]
        have : (b :: bs)[(x - a).toNat] = (b :: bs)[(x - (a + 1)).toNat + 1]'(by simp only [List.length_cons]; omega) := by
          congr 1
          exact h1.symm
        rw [this, List.getElem_cons_succ]
      · have h2 : ¬ (x - a).toNat < (b :: bs).length := by simp only [List.length_cons]; omega
        simp only [hb, h2, dif_neg, not_false_iff]

/-- A byte outside the written ones is unchanged, whatever the memory's form. -/
theorem Memory.read_writeBytes_outside (m : Memory) (a x : Word) (bs : List Byte) (hl : bs.length ≤ 2 ^ 32)
    (hx : bs.length ≤ (x - a).toNat) : (m.writeBytes a bs).read x = m.read x := by
  induction bs generalizing m a with
  | nil => rfl
  | cons b bs ih =>
    have hlen : bs.length < 2 ^ 32 := by simpa [Nat.succ_le_iff] using hl
    have hxa : x ≠ a := by
      intro he
      subst he
      simp at hx
    have h1 := offset_succ hxa
    simp only [List.length_cons] at hx
    simp only [Memory.writeBytes]
    rw [ih _ _ (by omega) (by omega), Memory.read_write_ne _ hxa]

end Sys2Proof.Machine
end

