-- ==== Sys2Proof/Laws/State.lean ====
section
/-! SUPPORT. One lemma per field per update of the state, so that no proof unfolds a record update. -/

namespace Sys2Proof.Machine

/-! `setReg` -/

@[simp] theorem State.cfg_setReg (s : State) (n : Reg) (v : Word) : (s.setReg n v).cfg = s.cfg := rfl
@[simp] theorem State.regs_setReg (s : State) (n : Reg) (v : Word) : (s.setReg n v).regs = s.regs.set n v := rfl
@[simp] theorem State.pc_setReg (s : State) (n : Reg) (v : Word) : (s.setReg n v).pc = s.pc := rfl
@[simp] theorem State.psr_setReg (s : State) (n : Reg) (v : Word) : (s.setReg n v).psr = s.psr := rfl
@[simp] theorem State.epsr_setReg (s : State) (n : Reg) (v : Word) : (s.setReg n v).epsr = s.epsr := rfl
@[simp] theorem State.epc_setReg (s : State) (n : Reg) (v : Word) : (s.setReg n v).epc = s.epc := rfl
@[simp] theorem State.gcr_setReg (s : State) (n : Reg) (v : Word) : (s.setReg n v).gcr = s.gcr := rfl
@[simp] theorem State.mp_setReg (s : State) (n : Reg) (v : Word) : (s.setReg n v).mp = s.mp := rfl
@[simp] theorem State.capr_setReg (s : State) (n : Reg) (v : Word) : (s.setReg n v).capr = s.capr := rfl
@[simp] theorem State.pacr_setReg (s : State) (n : Reg) (v : Word) : (s.setReg n v).pacr = s.pacr := rfl
@[simp] theorem State.rid_setReg (s : State) (n : Reg) (v : Word) : (s.setReg n v).rid = s.rid := rfl
@[simp] theorem State.iae_setReg (s : State) (n : Reg) (v : Word) : (s.setReg n v).iae = s.iae := rfl
@[simp] theorem State.idlyCnt_setReg (s : State) (n : Reg) (v : Word) : (s.setReg n v).idlyCnt = s.idlyCnt := rfl
@[simp] theorem State.runState_setReg (s : State) (n : Reg) (v : Word) : (s.setReg n v).runState = s.runState := rfl
@[simp] theorem State.mem_setReg (s : State) (n : Reg) (v : Word) : (s.setReg n v).mem = s.mem := rfl
@[simp] theorem State.window_setReg (s : State) (n : Reg) (v : Word) : (s.setReg n v).window = s.window := rfl
@[simp] theorem State.inputs_setReg (s : State) (n : Reg) (v : Word) : (s.setReg n v).inputs = s.inputs := rfl
@[simp] theorem State.free_setReg (s : State) (n : Reg) (v : Word) : (s.setReg n v).free = s.free := rfl

/-! `setC` -/

@[simp] theorem State.cfg_setC (s : State) (b : Bool) : (s.setC b).cfg = s.cfg := rfl
@[simp] theorem State.regs_setC (s : State) (b : Bool) : (s.setC b).regs = s.regs := rfl
@[simp] theorem State.pc_setC (s : State) (b : Bool) : (s.setC b).pc = s.pc := rfl
@[simp] theorem State.psr_setC (s : State) (b : Bool) : (s.setC b).psr = { s.psr with c := b } := rfl
@[simp] theorem State.epsr_setC (s : State) (b : Bool) : (s.setC b).epsr = s.epsr := rfl
@[simp] theorem State.epc_setC (s : State) (b : Bool) : (s.setC b).epc = s.epc := rfl
@[simp] theorem State.gcr_setC (s : State) (b : Bool) : (s.setC b).gcr = s.gcr := rfl
@[simp] theorem State.mp_setC (s : State) (b : Bool) : (s.setC b).mp = s.mp := rfl
@[simp] theorem State.capr_setC (s : State) (b : Bool) : (s.setC b).capr = s.capr := rfl
@[simp] theorem State.pacr_setC (s : State) (b : Bool) : (s.setC b).pacr = s.pacr := rfl
@[simp] theorem State.rid_setC (s : State) (b : Bool) : (s.setC b).rid = s.rid := rfl
@[simp] theorem State.iae_setC (s : State) (b : Bool) : (s.setC b).iae = s.iae := rfl
@[simp] theorem State.idlyCnt_setC (s : State) (b : Bool) : (s.setC b).idlyCnt = s.idlyCnt := rfl
@[simp] theorem State.runState_setC (s : State) (b : Bool) : (s.setC b).runState = s.runState := rfl
@[simp] theorem State.mem_setC (s : State) (b : Bool) : (s.setC b).mem = s.mem := rfl
@[simp] theorem State.window_setC (s : State) (b : Bool) : (s.setC b).window = s.window := rfl
@[simp] theorem State.inputs_setC (s : State) (b : Bool) : (s.setC b).inputs = s.inputs := rfl
@[simp] theorem State.free_setC (s : State) (b : Bool) : (s.setC b).free = s.free := rfl
@[simp] theorem State.reg_setC (s : State) (b : Bool) (k : Reg) : (s.setC b).reg k = s.reg k := rfl

/-! `setPc` -/

@[simp] theorem State.cfg_setPc (s : State) (a : Word) : (s.setPc a).cfg = s.cfg := rfl
@[simp] theorem State.regs_setPc (s : State) (a : Word) : (s.setPc a).regs = s.regs := rfl
@[simp] theorem State.pc_setPc (s : State) (a : Word) : (s.setPc a).pc = a := rfl
@[simp] theorem State.psr_setPc (s : State) (a : Word) : (s.setPc a).psr = s.psr := rfl
@[simp] theorem State.epsr_setPc (s : State) (a : Word) : (s.setPc a).epsr = s.epsr := rfl
@[simp] theorem State.epc_setPc (s : State) (a : Word) : (s.setPc a).epc = s.epc := rfl
@[simp] theorem State.gcr_setPc (s : State) (a : Word) : (s.setPc a).gcr = s.gcr := rfl
@[simp] theorem State.mp_setPc (s : State) (a : Word) : (s.setPc a).mp = s.mp := rfl
@[simp] theorem State.capr_setPc (s : State) (a : Word) : (s.setPc a).capr = s.capr := rfl
@[simp] theorem State.pacr_setPc (s : State) (a : Word) : (s.setPc a).pacr = s.pacr := rfl
@[simp] theorem State.rid_setPc (s : State) (a : Word) : (s.setPc a).rid = s.rid := rfl
@[simp] theorem State.iae_setPc (s : State) (a : Word) : (s.setPc a).iae = s.iae := rfl
@[simp] theorem State.idlyCnt_setPc (s : State) (a : Word) : (s.setPc a).idlyCnt = s.idlyCnt := rfl
@[simp] theorem State.runState_setPc (s : State) (a : Word) : (s.setPc a).runState = s.runState := rfl
@[simp] theorem State.mem_setPc (s : State) (a : Word) : (s.setPc a).mem = s.mem := rfl
@[simp] theorem State.window_setPc (s : State) (a : Word) : (s.setPc a).window = s.window := rfl
@[simp] theorem State.inputs_setPc (s : State) (a : Word) : (s.setPc a).inputs = s.inputs := rfl
@[simp] theorem State.free_setPc (s : State) (a : Word) : (s.setPc a).free = s.free := rfl
@[simp] theorem State.reg_setPc (s : State) (a : Word) (k : Reg) : (s.setPc a).reg k = s.reg k := rfl

/-! `jump` -/

@[simp] theorem State.cfg_jump (s : State) (a : Word) : (s.jump a).cfg = s.cfg := rfl
@[simp] theorem State.regs_jump (s : State) (a : Word) : (s.jump a).regs = s.regs := rfl
@[simp] theorem State.pc_jump (s : State) (a : Word) : (s.jump a).pc = a := rfl
@[simp] theorem State.psr_jump (s : State) (a : Word) : (s.jump a).psr = s.psr := rfl
@[simp] theorem State.epsr_jump (s : State) (a : Word) : (s.jump a).epsr = s.epsr := rfl
@[simp] theorem State.epc_jump (s : State) (a : Word) : (s.jump a).epc = s.epc := rfl
@[simp] theorem State.gcr_jump (s : State) (a : Word) : (s.jump a).gcr = s.gcr := rfl
@[simp] theorem State.mp_jump (s : State) (a : Word) : (s.jump a).mp = s.mp := rfl
@[simp] theorem State.capr_jump (s : State) (a : Word) : (s.jump a).capr = s.capr := rfl
@[simp] theorem State.pacr_jump (s : State) (a : Word) : (s.jump a).pacr = s.pacr := rfl
@[simp] theorem State.rid_jump (s : State) (a : Word) : (s.jump a).rid = s.rid := rfl
@[simp] theorem State.iae_jump (s : State) (a : Word) : (s.jump a).iae = s.iae := rfl
@[simp] theorem State.idlyCnt_jump (s : State) (a : Word) : (s.jump a).idlyCnt = s.idlyCnt := rfl
@[simp] theorem State.runState_jump (s : State) (a : Word) : (s.jump a).runState = s.runState := rfl
@[simp] theorem State.mem_jump (s : State) (a : Word) : (s.jump a).mem = s.mem := rfl
@[simp] theorem State.window_jump (s : State) (a : Word) : (s.jump a).window = [] := rfl
@[simp] theorem State.inputs_jump (s : State) (a : Word) : (s.jump a).inputs = s.inputs := rfl
@[simp] theorem State.free_jump (s : State) (a : Word) : (s.jump a).free = s.free := rfl
@[simp] theorem State.reg_jump (s : State) (a : Word) (k : Reg) : (s.jump a).reg k = s.reg k := rfl

/-! `setMem` -/

@[simp] theorem State.cfg_setMem (s : State) (m : Memory) : (s.setMem m).cfg = s.cfg := rfl
@[simp] theorem State.regs_setMem (s : State) (m : Memory) : (s.setMem m).regs = s.regs := rfl
@[simp] theorem State.pc_setMem (s : State) (m : Memory) : (s.setMem m).pc = s.pc := rfl
@[simp] theorem State.psr_setMem (s : State) (m : Memory) : (s.setMem m).psr = s.psr := rfl
@[simp] theorem State.epsr_setMem (s : State) (m : Memory) : (s.setMem m).epsr = s.epsr := rfl
@[simp] theorem State.epc_setMem (s : State) (m : Memory) : (s.setMem m).epc = s.epc := rfl
@[simp] theorem State.gcr_setMem (s : State) (m : Memory) : (s.setMem m).gcr = s.gcr := rfl
@[simp] theorem State.mp_setMem (s : State) (m : Memory) : (s.setMem m).mp = s.mp := rfl
@[simp] theorem State.capr_setMem (s : State) (m : Memory) : (s.setMem m).capr = s.capr := rfl
@[simp] theorem State.pacr_setMem (s : State) (m : Memory) : (s.setMem m).pacr = s.pacr := rfl
@[simp] theorem State.rid_setMem (s : State) (m : Memory) : (s.setMem m).rid = s.rid := rfl
@[simp] theorem State.iae_setMem (s : State) (m : Memory) : (s.setMem m).iae = s.iae := rfl
@[simp] theorem State.idlyCnt_setMem (s : State) (m : Memory) : (s.setMem m).idlyCnt = s.idlyCnt := rfl
@[simp] theorem State.runState_setMem (s : State) (m : Memory) : (s.setMem m).runState = s.runState := rfl
@[simp] theorem State.mem_setMem (s : State) (m : Memory) : (s.setMem m).mem = m := rfl
@[simp] theorem State.window_setMem (s : State) (m : Memory) : (s.setMem m).window = s.window := rfl
@[simp] theorem State.inputs_setMem (s : State) (m : Memory) : (s.setMem m).inputs = s.inputs := rfl
@[simp] theorem State.free_setMem (s : State) (m : Memory) : (s.setMem m).free = s.free := rfl
@[simp] theorem State.reg_setMem (s : State) (m : Memory) (k : Reg) : (s.setMem m).reg k = s.reg k := rfl

/-! `advance` -/

@[simp] theorem State.cfg_advance (s : State) (n : Word) : (s.advance n).cfg = s.cfg := rfl
@[simp] theorem State.regs_advance (s : State) (n : Word) : (s.advance n).regs = s.regs := rfl
@[simp] theorem State.pc_advance (s : State) (n : Word) : (s.advance n).pc = s.pc + n := rfl
@[simp] theorem State.psr_advance (s : State) (n : Word) : (s.advance n).psr = s.psr := rfl
@[simp] theorem State.epsr_advance (s : State) (n : Word) : (s.advance n).epsr = s.epsr := rfl
@[simp] theorem State.epc_advance (s : State) (n : Word) : (s.advance n).epc = s.epc := rfl
@[simp] theorem State.gcr_advance (s : State) (n : Word) : (s.advance n).gcr = s.gcr := rfl
@[simp] theorem State.mp_advance (s : State) (n : Word) : (s.advance n).mp = s.mp := rfl
@[simp] theorem State.capr_advance (s : State) (n : Word) : (s.advance n).capr = s.capr := rfl
@[simp] theorem State.pacr_advance (s : State) (n : Word) : (s.advance n).pacr = s.pacr := rfl
@[simp] theorem State.rid_advance (s : State) (n : Word) : (s.advance n).rid = s.rid := rfl
@[simp] theorem State.iae_advance (s : State) (n : Word) : (s.advance n).iae = s.iae := rfl
@[simp] theorem State.idlyCnt_advance (s : State) (n : Word) : (s.advance n).idlyCnt = s.idlyCnt := rfl
@[simp] theorem State.runState_advance (s : State) (n : Word) : (s.advance n).runState = s.runState := rfl
@[simp] theorem State.mem_advance (s : State) (n : Word) : (s.advance n).mem = s.mem := rfl
@[simp] theorem State.window_advance (s : State) (n : Word) : (s.advance n).window = s.window := rfl
@[simp] theorem State.inputs_advance (s : State) (n : Word) : (s.advance n).inputs = s.inputs := rfl
@[simp] theorem State.free_advance (s : State) (n : Word) : (s.advance n).free = s.free := rfl
@[simp] theorem State.reg_advance (s : State) (n : Word) (k : Reg) : (s.advance n).reg k = s.reg k := rfl

/-! `writeData` -/

@[simp] theorem State.cfg_writeData (s : State) (sz : Size) (a v : Word) : (writeData s sz a v).cfg = s.cfg := rfl
@[simp] theorem State.regs_writeData (s : State) (sz : Size) (a v : Word) : (writeData s sz a v).regs = s.regs := rfl
@[simp] theorem State.pc_writeData (s : State) (sz : Size) (a v : Word) : (writeData s sz a v).pc = s.pc := rfl
@[simp] theorem State.psr_writeData (s : State) (sz : Size) (a v : Word) : (writeData s sz a v).psr = s.psr := rfl
@[simp] theorem State.epsr_writeData (s : State) (sz : Size) (a v : Word) : (writeData s sz a v).epsr = s.epsr := rfl
@[simp] theorem State.epc_writeData (s : State) (sz : Size) (a v : Word) : (writeData s sz a v).epc = s.epc := rfl
@[simp] theorem State.gcr_writeData (s : State) (sz : Size) (a v : Word) : (writeData s sz a v).gcr = s.gcr := rfl
@[simp] theorem State.mp_writeData (s : State) (sz : Size) (a v : Word) : (writeData s sz a v).mp = s.mp := rfl
@[simp] theorem State.capr_writeData (s : State) (sz : Size) (a v : Word) : (writeData s sz a v).capr = s.capr := rfl
@[simp] theorem State.pacr_writeData (s : State) (sz : Size) (a v : Word) : (writeData s sz a v).pacr = s.pacr := rfl
@[simp] theorem State.rid_writeData (s : State) (sz : Size) (a v : Word) : (writeData s sz a v).rid = s.rid := rfl
@[simp] theorem State.iae_writeData (s : State) (sz : Size) (a v : Word) : (writeData s sz a v).iae = s.iae := rfl
@[simp] theorem State.idlyCnt_writeData (s : State) (sz : Size) (a v : Word) : (writeData s sz a v).idlyCnt = s.idlyCnt := rfl
@[simp] theorem State.runState_writeData (s : State) (sz : Size) (a v : Word) : (writeData s sz a v).runState = s.runState := rfl
@[simp] theorem State.mem_writeData (s : State) (sz : Size) (a v : Word) : (writeData s sz a v).mem = s.mem.writeBytes a (dataBytes s.cfg.endian sz v) := rfl
@[simp] theorem State.window_writeData (s : State) (sz : Size) (a v : Word) : (writeData s sz a v).window = s.window := rfl
@[simp] theorem State.inputs_writeData (s : State) (sz : Size) (a v : Word) : (writeData s sz a v).inputs = s.inputs := rfl
@[simp] theorem State.free_writeData (s : State) (sz : Size) (a v : Word) : (writeData s sz a v).free = s.free := rfl
@[simp] theorem State.reg_writeData (s : State) (sz : Size) (a v : Word) (k : Reg) : (writeData s sz a v).reg k = s.reg k := rfl

/-! `saveContext` -/

@[simp] theorem State.cfg_saveContext (s : State) (v : BitVec 8) (q : Bool) (r : Word) : (saveContext v q r s).cfg = s.cfg := rfl
@[simp] theorem State.regs_saveContext (s : State) (v : BitVec 8) (q : Bool) (r : Word) : (saveContext v q r s).regs = s.regs := rfl
@[simp] theorem State.pc_saveContext (s : State) (v : BitVec 8) (q : Bool) (r : Word) : (saveContext v q r s).pc = s.pc := rfl
@[simp] theorem State.psr_saveContext (s : State) (v : BitVec 8) (q : Bool) (r : Word) : (saveContext v q r s).psr = { s.psr with c := s.psr.c || (decide (0 < s.idlyCnt) && !q), s := true, vec := v, ee := false, ie := false } := rfl
@[simp] theorem State.epsr_saveContext (s : State) (v : BitVec 8) (q : Bool) (r : Word) : (saveContext v q r s).epsr = { s.psr with c := s.psr.c || (decide (0 < s.idlyCnt) && !q) } := rfl
@[simp] theorem State.epc_saveContext (s : State) (v : BitVec 8) (q : Bool) (r : Word) : (saveContext v q r s).epc = r := rfl
@[simp] theorem State.gcr_saveContext (s : State) (v : BitVec 8) (q : Bool) (r : Word) : (saveContext v q r s).gcr = s.gcr := rfl
@[simp] theorem State.mp_saveContext (s : State) (v : BitVec 8) (q : Bool) (r : Word) : (saveContext v q r s).mp = s.mp := rfl
@[simp] theorem State.capr_saveContext (s : State) (v : BitVec 8) (q : Bool) (r : Word) : (saveContext v q r s).capr = s.capr := rfl
@[simp] theorem State.pacr_saveContext (s : State) (v : BitVec 8) (q : Bool) (r : Word) : (saveContext v q r s).pacr = s.pacr := rfl
@[simp] theorem State.rid_saveContext (s : State) (v : BitVec 8) (q : Bool) (r : Word) : (saveContext v q r s).rid = s.rid := rfl
@[simp] theorem State.iae_saveContext (s : State) (v : BitVec 8) (q : Bool) (r : Word) : (saveContext v q r s).iae = s.iae := rfl
@[simp] theorem State.idlyCnt_saveContext (s : State) (v : BitVec 8) (q : Bool) (r : Word) : (saveContext v q r s).idlyCnt = 0 := rfl
@[simp] theorem State.runState_saveContext (s : State) (v : BitVec 8) (q : Bool) (r : Word) : (saveContext v q r s).runState = s.runState := rfl
@[simp] theorem State.mem_saveContext (s : State) (v : BitVec 8) (q : Bool) (r : Word) : (saveContext v q r s).mem = s.mem := rfl
@[simp] theorem State.window_saveContext (s : State) (v : BitVec 8) (q : Bool) (r : Word) : (saveContext v q r s).window = [] := rfl
@[simp] theorem State.inputs_saveContext (s : State) (v : BitVec 8) (q : Bool) (r : Word) : (saveContext v q r s).inputs = s.inputs := rfl
@[simp] theorem State.free_saveContext (s : State) (v : BitVec 8) (q : Bool) (r : Word) : (saveContext v q r s).free = s.free := rfl
@[simp] theorem State.reg_saveContext (s : State) (v : BitVec 8) (q : Bool) (r : Word) (k : Reg) : (saveContext v q r s).reg k = s.reg k := rfl

/-! `enterHandler` -/

@[simp] theorem State.cfg_enterHandler (s : State) (w : Word) : (enterHandler w s).cfg = s.cfg := rfl
@[simp] theorem State.regs_enterHandler (s : State) (w : Word) : (enterHandler w s).regs = s.regs := rfl
@[simp] theorem State.pc_enterHandler (s : State) (w : Word) : (enterHandler w s).pc = evenAddr w := rfl
@[simp] theorem State.psr_enterHandler (s : State) (w : Word) : (enterHandler w s).psr = s.psr := rfl
@[simp] theorem State.epsr_enterHandler (s : State) (w : Word) : (enterHandler w s).epsr = s.epsr := rfl
@[simp] theorem State.epc_enterHandler (s : State) (w : Word) : (enterHandler w s).epc = s.epc := rfl
@[simp] theorem State.gcr_enterHandler (s : State) (w : Word) : (enterHandler w s).gcr = s.gcr := rfl
@[simp] theorem State.mp_enterHandler (s : State) (w : Word) : (enterHandler w s).mp = s.mp := rfl
@[simp] theorem State.capr_enterHandler (s : State) (w : Word) : (enterHandler w s).capr = s.capr := rfl
@[simp] theorem State.pacr_enterHandler (s : State) (w : Word) : (enterHandler w s).pacr = s.pacr := rfl
@[simp] theorem State.rid_enterHandler (s : State) (w : Word) : (enterHandler w s).rid = s.rid := rfl
@[simp] theorem State.iae_enterHandler (s : State) (w : Word) : (enterHandler w s).iae = s.iae := rfl
@[simp] theorem State.idlyCnt_enterHandler (s : State) (w : Word) : (enterHandler w s).idlyCnt = s.idlyCnt := rfl
@[simp] theorem State.runState_enterHandler (s : State) (w : Word) : (enterHandler w s).runState = .running := rfl
@[simp] theorem State.mem_enterHandler (s : State) (w : Word) : (enterHandler w s).mem = s.mem := rfl
@[simp] theorem State.window_enterHandler (s : State) (w : Word) : (enterHandler w s).window = s.window := rfl
@[simp] theorem State.inputs_enterHandler (s : State) (w : Word) : (enterHandler w s).inputs = s.inputs := rfl
@[simp] theorem State.free_enterHandler (s : State) (w : Word) : (enterHandler w s).free = s.free := rfl
@[simp] theorem State.reg_enterHandler (s : State) (w : Word) (k : Reg) : (enterHandler w s).reg k = s.reg k := rfl

/-! `returnFromException` -/

@[simp] theorem State.cfg_returnFromException (s : State) : (returnFromException s).cfg = s.cfg := rfl
@[simp] theorem State.regs_returnFromException (s : State) : (returnFromException s).regs = s.regs := rfl
@[simp] theorem State.pc_returnFromException (s : State) : (returnFromException s).pc = evenAddr s.epc := rfl
@[simp] theorem State.psr_returnFromException (s : State) : (returnFromException s).psr = s.epsr := rfl
@[simp] theorem State.epsr_returnFromException (s : State) : (returnFromException s).epsr = s.epsr := rfl
@[simp] theorem State.epc_returnFromException (s : State) : (returnFromException s).epc = s.epc := rfl
@[simp] theorem State.gcr_returnFromException (s : State) : (returnFromException s).gcr = s.gcr := rfl
@[simp] theorem State.mp_returnFromException (s : State) : (returnFromException s).mp = s.mp := rfl
@[simp] theorem State.capr_returnFromException (s : State) : (returnFromException s).capr = s.capr := rfl
@[simp] theorem State.pacr_returnFromException (s : State) : (returnFromException s).pacr = s.pacr := rfl
@[simp] theorem State.rid_returnFromException (s : State) : (returnFromException s).rid = s.rid := rfl
@[simp] theorem State.iae_returnFromException (s : State) : (returnFromException s).iae = s.iae := rfl
@[simp] theorem State.idlyCnt_returnFromException (s : State) : (returnFromException s).idlyCnt = 0 := rfl
@[simp] theorem State.runState_returnFromException (s : State) : (returnFromException s).runState = s.runState := rfl
@[simp] theorem State.mem_returnFromException (s : State) : (returnFromException s).mem = s.mem := rfl
@[simp] theorem State.window_returnFromException (s : State) : (returnFromException s).window = [] := rfl
@[simp] theorem State.inputs_returnFromException (s : State) : (returnFromException s).inputs = s.inputs := rfl
@[simp] theorem State.free_returnFromException (s : State) : (returnFromException s).free = s.free := rfl
@[simp] theorem State.reg_returnFromException (s : State) (k : Reg) : (returnFromException s).reg k = s.reg k := rfl

/-! `enterLowPower` -/

@[simp] theorem State.cfg_enterLowPower (s : State) (r : RunState) : (enterLowPower r s).cfg = s.cfg := rfl
@[simp] theorem State.regs_enterLowPower (s : State) (r : RunState) : (enterLowPower r s).regs = s.regs := rfl
@[simp] theorem State.pc_enterLowPower (s : State) (r : RunState) : (enterLowPower r s).pc = s.pc + 4 := rfl
@[simp] theorem State.psr_enterLowPower (s : State) (r : RunState) : (enterLowPower r s).psr = s.psr := rfl
@[simp] theorem State.epsr_enterLowPower (s : State) (r : RunState) : (enterLowPower r s).epsr = s.epsr := rfl
@[simp] theorem State.epc_enterLowPower (s : State) (r : RunState) : (enterLowPower r s).epc = s.epc := rfl
@[simp] theorem State.gcr_enterLowPower (s : State) (r : RunState) : (enterLowPower r s).gcr = s.gcr := rfl
@[simp] theorem State.mp_enterLowPower (s : State) (r : RunState) : (enterLowPower r s).mp = s.mp := rfl
@[simp] theorem State.capr_enterLowPower (s : State) (r : RunState) : (enterLowPower r s).capr = s.capr := rfl
@[simp] theorem State.pacr_enterLowPower (s : State) (r : RunState) : (enterLowPower r s).pacr = s.pacr := rfl
@[simp] theorem State.rid_enterLowPower (s : State) (r : RunState) : (enterLowPower r s).rid = s.rid := rfl
@[simp] theorem State.iae_enterLowPower (s : State) (r : RunState) : (enterLowPower r s).iae = s.iae := rfl
@[simp] theorem State.idlyCnt_enterLowPower (s : State) (r : RunState) : (enterLowPower r s).idlyCnt = 0 := rfl
@[simp] theorem State.runState_enterLowPower (s : State) (r : RunState) : (enterLowPower r s).runState = r := rfl
@[simp] theorem State.mem_enterLowPower (s : State) (r : RunState) : (enterLowPower r s).mem = s.mem := rfl
@[simp] theorem State.window_enterLowPower (s : State) (r : RunState) : (enterLowPower r s).window = s.window := rfl
@[simp] theorem State.inputs_enterLowPower (s : State) (r : RunState) : (enterLowPower r s).inputs = s.inputs := rfl
@[simp] theorem State.free_enterLowPower (s : State) (r : RunState) : (enterLowPower r s).free = s.free := rfl
@[simp] theorem State.reg_enterLowPower (s : State) (r : RunState) (k : Reg) : (enterLowPower r s).reg k = s.reg k := rfl

/-! `wake` -/

@[simp] theorem State.cfg_wake (s : State) : (s.wake).cfg = s.cfg := rfl
@[simp] theorem State.regs_wake (s : State) : (s.wake).regs = s.regs := rfl
@[simp] theorem State.pc_wake (s : State) : (s.wake).pc = s.pc := rfl
@[simp] theorem State.psr_wake (s : State) : (s.wake).psr = s.psr := rfl
@[simp] theorem State.epsr_wake (s : State) : (s.wake).epsr = s.epsr := rfl
@[simp] theorem State.epc_wake (s : State) : (s.wake).epc = s.epc := rfl
@[simp] theorem State.gcr_wake (s : State) : (s.wake).gcr = s.gcr := rfl
@[simp] theorem State.mp_wake (s : State) : (s.wake).mp = s.mp := rfl
@[simp] theorem State.capr_wake (s : State) : (s.wake).capr = s.capr := rfl
@[simp] theorem State.pacr_wake (s : State) : (s.wake).pacr = s.pacr := rfl
@[simp] theorem State.rid_wake (s : State) : (s.wake).rid = s.rid := rfl
@[simp] theorem State.iae_wake (s : State) : (s.wake).iae = s.iae := rfl
@[simp] theorem State.idlyCnt_wake (s : State) : (s.wake).idlyCnt = s.idlyCnt := rfl
@[simp] theorem State.runState_wake (s : State) : (s.wake).runState = .running := rfl
@[simp] theorem State.mem_wake (s : State) : (s.wake).mem = s.mem := rfl
@[simp] theorem State.window_wake (s : State) : (s.wake).window = s.window := rfl
@[simp] theorem State.inputs_wake (s : State) : (s.wake).inputs = s.inputs := rfl
@[simp] theorem State.free_wake (s : State) : (s.wake).free = s.free := rfl
@[simp] theorem State.reg_wake (s : State) (k : Reg) : (s.wake).reg k = s.reg k := rfl

/-! `dropInput` -/

@[simp] theorem State.cfg_dropInput (s : State) : (s.dropInput).cfg = s.cfg := rfl
@[simp] theorem State.regs_dropInput (s : State) : (s.dropInput).regs = s.regs := rfl
@[simp] theorem State.pc_dropInput (s : State) : (s.dropInput).pc = s.pc := rfl
@[simp] theorem State.psr_dropInput (s : State) : (s.dropInput).psr = s.psr := rfl
@[simp] theorem State.epsr_dropInput (s : State) : (s.dropInput).epsr = s.epsr := rfl
@[simp] theorem State.epc_dropInput (s : State) : (s.dropInput).epc = s.epc := rfl
@[simp] theorem State.gcr_dropInput (s : State) : (s.dropInput).gcr = s.gcr := rfl
@[simp] theorem State.mp_dropInput (s : State) : (s.dropInput).mp = s.mp := rfl
@[simp] theorem State.capr_dropInput (s : State) : (s.dropInput).capr = s.capr := rfl
@[simp] theorem State.pacr_dropInput (s : State) : (s.dropInput).pacr = s.pacr := rfl
@[simp] theorem State.rid_dropInput (s : State) : (s.dropInput).rid = s.rid := rfl
@[simp] theorem State.iae_dropInput (s : State) : (s.dropInput).iae = s.iae := rfl
@[simp] theorem State.idlyCnt_dropInput (s : State) : (s.dropInput).idlyCnt = s.idlyCnt := rfl
@[simp] theorem State.runState_dropInput (s : State) : (s.dropInput).runState = s.runState := rfl
@[simp] theorem State.mem_dropInput (s : State) : (s.dropInput).mem = s.mem := rfl
@[simp] theorem State.window_dropInput (s : State) : (s.dropInput).window = s.window := rfl
@[simp] theorem State.inputs_dropInput (s : State) : (s.dropInput).inputs = s.inputs.tail := rfl
@[simp] theorem State.free_dropInput (s : State) : (s.dropInput).free = s.free := rfl
@[simp] theorem State.reg_dropInput (s : State) (k : Reg) : (s.dropInput).reg k = s.reg k := rfl

/-! `resetFields` -/

@[simp] theorem State.cfg_resetFields (s : State) : (resetFields s).cfg = s.cfg := rfl
@[simp] theorem State.regs_resetFields (s : State) : (resetFields s).regs = freeRegs s.free := rfl
@[simp] theorem State.pc_resetFields (s : State) : (resetFields s).pc = s.pc := rfl
@[simp] theorem State.psr_resetFields (s : State) : (resetFields s).psr = Psr.atReset := rfl
@[simp] theorem State.mp_resetFields (s : State) : (resetFields s).mp = 0 := rfl
@[simp] theorem State.pacr_resetFields (s : State) : (resetFields s).pacr = freePacr s.cfg.mpuRegions (s.free + 17) := rfl
@[simp] theorem State.iae_resetFields (s : State) : (resetFields s).iae = false := rfl
@[simp] theorem State.idlyCnt_resetFields (s : State) : (resetFields s).idlyCnt = 0 := rfl
@[simp] theorem State.runState_resetFields (s : State) : (resetFields s).runState = .running := rfl
@[simp] theorem State.mem_resetFields (s : State) : (resetFields s).mem = s.mem := rfl
@[simp] theorem State.window_resetFields (s : State) : (resetFields s).window = [] := rfl
@[simp] theorem State.inputs_resetFields (s : State) : (resetFields s).inputs = s.inputs := rfl
@[simp] theorem State.free_resetFields (s : State) : (resetFields s).free = s.free + 25 := rfl

/-! `prefetch` -/

@[simp] theorem State.cfg_prefetch (s : State) (n : Nat) : (prefetch n s).cfg = s.cfg := rfl
@[simp] theorem State.regs_prefetch (s : State) (n : Nat) : (prefetch n s).regs = s.regs := rfl
@[simp] theorem State.pc_prefetch (s : State) (n : Nat) : (prefetch n s).pc = s.pc := rfl
@[simp] theorem State.psr_prefetch (s : State) (n : Nat) : (prefetch n s).psr = s.psr := rfl
@[simp] theorem State.epsr_prefetch (s : State) (n : Nat) : (prefetch n s).epsr = s.epsr := rfl
@[simp] theorem State.epc_prefetch (s : State) (n : Nat) : (prefetch n s).epc = s.epc := rfl
@[simp] theorem State.gcr_prefetch (s : State) (n : Nat) : (prefetch n s).gcr = s.gcr := rfl
@[simp] theorem State.mp_prefetch (s : State) (n : Nat) : (prefetch n s).mp = s.mp := rfl
@[simp] theorem State.capr_prefetch (s : State) (n : Nat) : (prefetch n s).capr = s.capr := rfl
@[simp] theorem State.pacr_prefetch (s : State) (n : Nat) : (prefetch n s).pacr = s.pacr := rfl
@[simp] theorem State.rid_prefetch (s : State) (n : Nat) : (prefetch n s).rid = s.rid := rfl
@[simp] theorem State.iae_prefetch (s : State) (n : Nat) : (prefetch n s).iae = s.iae := rfl
@[simp] theorem State.idlyCnt_prefetch (s : State) (n : Nat) : (prefetch n s).idlyCnt = s.idlyCnt := rfl
@[simp] theorem State.runState_prefetch (s : State) (n : Nat) : (prefetch n s).runState = s.runState := rfl
@[simp] theorem State.mem_prefetch (s : State) (n : Nat) : (prefetch n s).mem = s.mem := rfl
@[simp] theorem State.inputs_prefetch (s : State) (n : Nat) : (prefetch n s).inputs = s.inputs := rfl
@[simp] theorem State.free_prefetch (s : State) (n : Nat) : (prefetch n s).free = s.free := rfl
@[simp] theorem State.reg_prefetch (s : State) (n : Nat) (k : Reg) : (prefetch n s).reg k = s.reg k := rfl

/-! `tickIdly` -/

@[simp] theorem State.cfg_tickIdly (n : Nat) (t : State) : (tickIdly n t).cfg = t.cfg := by
  unfold tickIdly; split <;> rfl
@[simp] theorem State.regs_tickIdly (n : Nat) (t : State) : (tickIdly n t).regs = t.regs := by
  unfold tickIdly; split <;> rfl
@[simp] theorem State.pc_tickIdly (n : Nat) (t : State) : (tickIdly n t).pc = t.pc := by
  unfold tickIdly; split <;> rfl
@[simp] theorem State.psr_tickIdly (n : Nat) (t : State) : (tickIdly n t).psr = t.psr := by
  unfold tickIdly; split <;> rfl
@[simp] theorem State.epsr_tickIdly (n : Nat) (t : State) : (tickIdly n t).epsr = t.epsr := by
  unfold tickIdly; split <;> rfl
@[simp] theorem State.epc_tickIdly (n : Nat) (t : State) : (tickIdly n t).epc = t.epc := by
  unfold tickIdly; split <;> rfl
@[simp] theorem State.gcr_tickIdly (n : Nat) (t : State) : (tickIdly n t).gcr = t.gcr := by
  unfold tickIdly; split <;> rfl
@[simp] theorem State.mp_tickIdly (n : Nat) (t : State) : (tickIdly n t).mp = t.mp := by
  unfold tickIdly; split <;> rfl
@[simp] theorem State.capr_tickIdly (n : Nat) (t : State) : (tickIdly n t).capr = t.capr := by
  unfold tickIdly; split <;> rfl
@[simp] theorem State.pacr_tickIdly (n : Nat) (t : State) : (tickIdly n t).pacr = t.pacr := by
  unfold tickIdly; split <;> rfl
@[simp] theorem State.rid_tickIdly (n : Nat) (t : State) : (tickIdly n t).rid = t.rid := by
  unfold tickIdly; split <;> rfl
@[simp] theorem State.iae_tickIdly (n : Nat) (t : State) : (tickIdly n t).iae = t.iae := by
  unfold tickIdly; split <;> rfl
@[simp] theorem State.idlyCnt_tickIdly (n : Nat) (t : State) :
    (tickIdly n t).idlyCnt = if n = 0 then t.idlyCnt else t.idlyCnt - 1 := by
  unfold tickIdly; split <;> rfl
@[simp] theorem State.runState_tickIdly (n : Nat) (t : State) : (tickIdly n t).runState = t.runState := by
  unfold tickIdly; split <;> rfl
@[simp] theorem State.mem_tickIdly (n : Nat) (t : State) : (tickIdly n t).mem = t.mem := by
  unfold tickIdly; split <;> rfl
@[simp] theorem State.window_tickIdly (n : Nat) (t : State) : (tickIdly n t).window = t.window := by
  unfold tickIdly; split <;> rfl
@[simp] theorem State.inputs_tickIdly (n : Nat) (t : State) : (tickIdly n t).inputs = t.inputs := by
  unfold tickIdly; split <;> rfl
@[simp] theorem State.free_tickIdly (n : Nat) (t : State) : (tickIdly n t).free = t.free := by
  unfold tickIdly; split <;> rfl
@[simp] theorem State.reg_tickIdly (n : Nat) (t : State) (k : Reg) : (tickIdly n t).reg k = t.reg k := by
  unfold tickIdly; split <;> rfl

/-- A state equal in every field is the same state. -/
theorem State.eq_of_fields {s t : State} (h0 : s.cfg = t.cfg) (h1 : s.regs = t.regs) (h2 : s.pc = t.pc) (h3 : s.psr = t.psr)
    (h4 : s.epsr = t.epsr) (h5 : s.epc = t.epc) (h6 : s.gcr = t.gcr) (h7 : s.mp = t.mp) (h8 : s.capr = t.capr)
    (h9 : s.pacr = t.pacr) (h10 : s.rid = t.rid) (h11 : s.iae = t.iae) (h12 : s.idlyCnt = t.idlyCnt)
    (h13 : s.runState = t.runState) (h14 : s.mem = t.mem) (h15 : s.window = t.window) (h16 : s.inputs = t.inputs)
    (h17 : s.free = t.free) : s = t := by
  cases s; cases t; simp_all

end Sys2Proof.Machine
end

