-- ==== Sys2Proof/Laws/Registers.lean ====
section
/-! SUPPORT. Reads and writes of the general registers (10_state.md R30). -/

namespace Sys2Proof.Machine

/-- r9 to r12 read 0. -/
theorem Regs.get_unimplemented (r : Regs) (n : Reg) (h : implementedReg n = false) : r.get n = 0 := by
  revert h
  rcases n with ⟨⟨i, hi⟩⟩
  interval_cases i <;> first | (intro h; exact absurd (show true = false from h) (by decide)) | (intro _; rfl)

/-- A register written reads back; r9 to r12 stay 0. -/
theorem Regs.get_set_same (r : Regs) (n : Reg) (v : Word) :
    (r.set n v).get n = if implementedReg n then v else 0 := by
  rcases n with ⟨⟨i, hi⟩⟩
  interval_cases i <;> rfl

/-- The other registers keep their value. -/
theorem Regs.get_set_ne (r : Regs) (n k : Reg) (v : Word) (h : k ≠ n) : (r.set n v).get k = r.get k := by
  revert h
  rcases n with ⟨⟨i, hi⟩⟩
  rcases k with ⟨⟨j, hj⟩⟩
  interval_cases i <;> interval_cases j <;> first | (intro h; exact absurd rfl h) | (intro _; rfl)

/-- A write to r9 to r12 has no effect. -/
theorem Regs.set_unimplemented (r : Regs) (n : Reg) (v : Word) (h : implementedReg n = false) : r.set n v = r := by
  revert h
  rcases n with ⟨⟨i, hi⟩⟩
  interval_cases i <;> first | (intro h; exact absurd (show true = false from h) (by decide)) | (intro _; rfl)

/-- What reading a register gives after a write. -/
theorem State.reg_setReg (s : State) (n k : Reg) (v : Word) :
    (s.setReg n v).reg k = if k = n then (if implementedReg n then v else 0) else s.reg k := by
  unfold State.reg State.setReg
  split
  · next h => subst h; exact Regs.get_set_same _ _ _
  · next h => exact Regs.get_set_ne _ _ _ _ h

@[simp] theorem State.reg_setReg_same (s : State) (n : Reg) (v : Word) :
    (s.setReg n v).reg n = if implementedReg n then v else 0 := by
  simp [State.reg_setReg]

theorem State.reg_setReg_ne (s : State) (n k : Reg) (v : Word) (h : k ≠ n) : (s.setReg n v).reg k = s.reg k := by
  simp [State.reg_setReg, h]

theorem State.reg_unimplemented (s : State) (n : Reg) (h : implementedReg n = false) : s.reg n = 0 :=
  Regs.get_unimplemented _ _ h

theorem State.setReg_unimplemented (s : State) (n : Reg) (v : Word) (h : implementedReg n = false) : s.setReg n v = s := by
  unfold State.setReg
  rw [Regs.set_unimplemented _ _ _ h]

@[simp] theorem implementedReg_sp : implementedReg sp = true := by decide
@[simp] theorem implementedReg_lr : implementedReg lr = true := by decide

/-- The 3-bit fields name implemented registers only. -/
@[simp] theorem implementedReg_lowReg (n : BitVec 3) : implementedReg (lowReg n) = true := by
  revert n; decide

/-- No 3-bit field names SP. -/
@[simp] theorem lowReg_ne_sp (n : BitVec 3) : lowReg n ≠ sp := by
  revert n; decide

/-- Bit 0 of an even address is 0. -/
@[simp] theorem evenAddr_bit0 (a : Word) : (evenAddr a)[0] = false := by
  simp [evenAddr]

end Sys2Proof.Machine
end

