-- ==== Sys2Proof/Laws/Ops.lean ====
section
/-! SUPPORT. For each shared operation, one lemma that says once everything it can do, to be cited instead of unfolding it. -/

namespace Sys2Proof.Machine

/-! Results -/

@[simp] theorem Res.andThen_ok {α β : Type} (v : α) (k : α → Res β) : (Res.ok v).andThen k = k v := rfl
@[simp] theorem Res.andThen_raise {α β : Type} (e : Exc) (s : State) (k : α → Res β) :
    (Res.raise e s : Res α).andThen k = .raise e s := rfl
@[simp] theorem Res.andThen_refuse {α β : Type} (q : Refusal) (k : α → Res β) :
    (Res.refuse q : Res α).andThen k = .refuse q := rfl
@[simp] theorem Res.map_ok {α β : Type} (f : α → β) (v : α) : (Res.ok v).map f = .ok (f v) := rfl
@[simp] theorem Res.map_raise {α β : Type} (f : α → β) (e : Exc) (s : State) : (Res.raise e s).map f = .raise e s := rfl
@[simp] theorem Res.map_refuse {α β : Type} (f : α → β) (q : Refusal) : (Res.refuse q).map f = .refuse q := rfl

theorem Res.andThen_eq_ok {α β : Type} {r : Res α} {k : α → Res β} {b : β} (h : r.andThen k = .ok b) :
    ∃ a, r = .ok a ∧ k a = .ok b := by
  cases r with
  | ok a => exact ⟨a, rfl, h⟩
  | raise e s => cases h
  | refuse q => cases h

theorem Res.map_eq_ok {α β : Type} {r : Res α} {f : α → β} {b : β} (h : r.map f = .ok b) : ∃ a, r = .ok a ∧ f a = b := by
  obtain ⟨a, ha, hb⟩ := Res.andThen_eq_ok h
  cases hb
  exact ⟨a, ha, rfl⟩

theorem Res.andThen_eq_raise {α β : Type} {r : Res α} {k : α → Res β} {e : Exc} {t : State}
    (h : r.andThen k = .raise e t) : r = .raise e t ∨ ∃ a, r = .ok a ∧ k a = .raise e t := by
  cases r with
  | ok a => exact .inr ⟨a, rfl, h⟩
  | raise e' s => cases h; exact .inl rfl
  | refuse q => cases h

theorem Res.map_eq_raise {α β : Type} {r : Res α} {f : α → β} {e : Exc} {t : State} (h : r.map f = .raise e t) :
    r = .raise e t := by
  rcases Res.andThen_eq_raise h with h | ⟨a, _, h⟩
  · exact h
  · cases h

/-! Data accesses (20_memory.md R103 to R107) -/

/-- The address is aligned, or PSR.MM makes it so. -/
def alignedOrMasked (s : State) (sz : Size) (a : Word) : Prop := misaligned sz a = false ∨ s.psr.mm = true

theorem effective_cases (s : State) (sz : Size) (a : Word) :
    (alignedOrMasked s sz a ∧ effective s sz a = .ok (alignDown sz a)) ∨
      (misaligned sz a = true ∧ s.psr.mm = false ∧ effective s sz a = .raise .misaligned s) := by
  unfold effective alignedOrMasked
  cases misaligned sz a <;> cases s.psr.mm <;> simp

theorem guardAccess_cases (s : State) (k : AccessKind) (a : Word) (n : Nat) :
    (accessVerdict s k s.psr.s a n = .permit ∧ guardAccess s k a n = .ok ()) ∨
      (accessVerdict s k s.psr.s a n = .deny ∧ guardAccess s k a n = .raise .accessError s) ∨
      (∃ r, accessVerdict s k s.psr.s a n = .refuse r ∧ guardAccess s k a n = .refuse r) := by
  unfold guardAccess
  cases accessVerdict s k s.psr.s a n <;> simp

theorem guardAccess_eq_ok {s : State} {k : AccessKind} {a : Word} {n : Nat} {u : Unit} (h : guardAccess s k a n = .ok u) :
    accessVerdict s k s.psr.s a n = .permit := by
  rcases guardAccess_cases s k a n with ⟨hv, _⟩ | ⟨_, hg⟩ | ⟨r, _, hg⟩
  · exact hv
  · rw [hg] at h; cases h
  · rw [hg] at h; cases h

theorem guardAccess_eq_raise {s t : State} {k : AccessKind} {a : Word} {n : Nat} {e : Exc}
    (h : guardAccess s k a n = .raise e t) : t = s ∧ e = .accessError ∧ accessVerdict s k s.psr.s a n = .deny := by
  rcases guardAccess_cases s k a n with ⟨_, hg⟩ | ⟨hv, hg⟩ | ⟨r, _, hg⟩ <;> rw [hg] at h <;> cases h
  exact ⟨rfl, rfl, hv⟩

/-- A load gives the datum of the aligned address, where it is permitted. -/
theorem load_eq_ok {s : State} {sz : Size} {a v : Word} : load s sz a = .ok v ↔
    alignedOrMasked s sz a ∧ accessVerdict s .read s.psr.s (alignDown sz a) sz.bytes = .permit ∧
      v = readData s sz (alignDown sz a) := by
  unfold load loadAligned
  rcases effective_cases s sz a with ⟨ha, he⟩ | ⟨hm, hmm, he⟩
  · rcases guardAccess_cases s .read (alignDown sz a) sz.bytes with ⟨hv, hg⟩ | ⟨hv, hg⟩ | ⟨r, hv, hg⟩ <;>
      simp [he, hg, ha, hv, eq_comm]
  · simp [he, alignedOrMasked, hm, hmm]

/-- A store writes the datum at the aligned address, where it is permitted. -/
theorem store_eq_ok {s t : State} {sz : Size} {a v : Word} : store s sz a v = .ok t ↔
    alignedOrMasked s sz a ∧ accessVerdict s .write s.psr.s (alignDown sz a) sz.bytes = .permit ∧
      t = writeData s sz (alignDown sz a) v := by
  unfold store storeAligned
  rcases effective_cases s sz a with ⟨ha, he⟩ | ⟨hm, hmm, he⟩
  · rcases guardAccess_cases s .write (alignDown sz a) sz.bytes with ⟨hv, hg⟩ | ⟨hv, hg⟩ | ⟨r, hv, hg⟩ <;>
      simp [he, hg, ha, hv, eq_comm]
  · simp [he, alignedOrMasked, hm, hmm]

/-- An exception of a load: misaligned, or an access error; the state is as it was. -/
theorem load_eq_raise {s t : State} {sz : Size} {a : Word} {e : Exc} (h : load s sz a = .raise e t) :
    t = s ∧ (e = .misaligned ∨ e = .accessError) := by
  unfold load loadAligned at h
  rcases effective_cases s sz a with ⟨_, he⟩ | ⟨_, _, he⟩
  · rw [he] at h
    have := guardAccess_eq_raise (Res.map_eq_raise h)
    exact ⟨this.1, .inr this.2.1⟩
  · rw [he] at h
    cases h
    exact ⟨rfl, .inl rfl⟩

/-- An exception of a store: misaligned, or an access error; the state is as it was. -/
theorem store_eq_raise {s t : State} {sz : Size} {a v : Word} {e : Exc} (h : store s sz a v = .raise e t) :
    t = s ∧ (e = .misaligned ∨ e = .accessError) := by
  unfold store storeAligned at h
  rcases effective_cases s sz a with ⟨_, he⟩ | ⟨_, _, he⟩
  · rw [he] at h
    have := guardAccess_eq_raise (Res.map_eq_raise h)
    exact ⟨this.1, .inr this.2.1⟩
  · rw [he] at h
    cases h
    exact ⟨rfl, .inl rfl⟩

theorem alignedSp_cases (s : State) :
    (misaligned .word (s.reg sp) = false ∧ alignedSp s = .ok ()) ∨
      (misaligned .word (s.reg sp) = true ∧ alignedSp s = .raise .misaligned s) := by
  unfold alignedSp
  cases misaligned .word (s.reg sp) <;> simp

/-- The words at consecutive addresses. -/
def wordsAt (s : State) (a : Word) : Nat → List Word
  | 0 => []
  | k + 1 => s.mem.readWord s.cfg.endian a :: wordsAt s (a + 4) k

/-- Every word at consecutive addresses may be accessed. -/
def wordsPermitted (s : State) (kind : AccessKind) (a : Word) : Nat → Prop
  | 0 => True
  | k + 1 => accessVerdict s kind s.psr.s a 4 = .permit ∧ wordsPermitted s kind (a + 4) k

/-- Several words are read when each may be. -/
theorem loadWords_eq_ok {s : State} {a : Word} {k : Nat} {vs : List Word} :
    loadWords s a k = .ok vs ↔ wordsPermitted s .read a k ∧ vs = wordsAt s a k := by
  induction k generalizing a vs with
  | zero => simp [loadWords, wordsPermitted, wordsAt, eq_comm]
  | succ k ih =>
    unfold loadWords loadAligned
    constructor
    · intro h
      obtain ⟨v, hv, h⟩ := Res.andThen_eq_ok h
      obtain ⟨u, hu, rfl⟩ := Res.map_eq_ok hv
      obtain ⟨ws, hw, rfl⟩ := Res.map_eq_ok h
      obtain ⟨hp, rfl⟩ := ih.mp hw
      exact ⟨⟨guardAccess_eq_ok hu, hp⟩, rfl⟩
    · rintro ⟨⟨hp, hps⟩, rfl⟩
      rcases guardAccess_cases s .read a Size.word.bytes with ⟨_, hg⟩ | ⟨hv, _⟩ | ⟨r, hv, _⟩
      · rw [hg]
        simp only [Res.map_ok, Res.andThen_ok]
        rw [ih.mpr ⟨hps, rfl⟩]
        rfl
      · exact absurd (hp.symm.trans hv) (by simp)
      · exact absurd (hp.symm.trans hv) (by simp)

theorem loadWords_eq_raise {s t : State} {a : Word} {k : Nat} {e : Exc} (h : loadWords s a k = .raise e t) :
    t = s ∧ e = .accessError := by
  induction k generalizing a with
  | zero => cases h
  | succ k ih =>
    unfold loadWords loadAligned at h
    rcases Res.andThen_eq_raise h with h | ⟨v, _, h⟩
    · have := guardAccess_eq_raise (Res.map_eq_raise h)
      exact ⟨this.1, this.2.1⟩
    · exact ih (Res.map_eq_raise h)

/-- The memory with words stored one after the other. -/
def storeSlots (e : Endian) (m : Memory) : List (Word × Word) → Memory
  | [] => m
  | (a, v) :: rest => storeSlots e (m.writeBytes a (wordBytes e v)) rest

/-- The checks of an access do not read memory or the general registers. -/
theorem accessVerdict_setMem (s : State) (m : Memory) (k : AccessKind) (u : Bool) (a : Word) (n : Nat) :
    accessVerdict (s.setMem m) k u a n = accessVerdict s k u a n := rfl

/-- Several words are written when each may be; nothing but memory changes. -/
theorem storeWords_eq_ok {s t : State} {slots : List (Word × Word)} :
    storeWords s slots = .ok t ↔ (∀ p ∈ slots, accessVerdict s .write s.psr.s p.1 4 = .permit) ∧
      t = s.setMem (storeSlots s.cfg.endian s.mem slots) := by
  induction slots generalizing s with
  | nil => simp [storeWords, storeSlots, State.setMem, eq_comm]
  | cons p rest ih =>
    obtain ⟨a, v⟩ := p
    unfold storeWords storeAligned
    constructor
    · intro h
      obtain ⟨u, hu, h⟩ := Res.andThen_eq_ok h
      obtain ⟨w, hw, rfl⟩ := Res.map_eq_ok hu
      obtain ⟨hp, rfl⟩ := ih.mp h
      refine ⟨?_, rfl⟩
      intro p hmem
      rcases List.mem_cons.mp hmem with rfl | hmem
      · exact guardAccess_eq_ok hw
      · exact hp p hmem
    · rintro ⟨hp, rfl⟩
      have h0 := hp (a, v) (List.mem_cons_self ..)
      rcases guardAccess_cases s .write a Size.word.bytes with ⟨_, hg⟩ | ⟨hv, _⟩ | ⟨r, hv, _⟩
      · rw [hg]
        simp only [Res.map_ok, Res.andThen_ok]
        exact ih.mpr ⟨fun p hm => hp p (List.mem_cons_of_mem _ hm), rfl⟩
      · exact absurd (h0.symm.trans hv) (by simp)
      · exact absurd (h0.symm.trans hv) (by simp)

/-- A fault part-way: an access error, in the state with the earlier words stored (43_load_store.md R323). -/
theorem storeWords_eq_raise {s t : State} {slots : List (Word × Word)} {e : Exc} (h : storeWords s slots = .raise e t) :
    e = .accessError ∧ ∃ pre p post, slots = pre ++ p :: post ∧
      accessVerdict s .write s.psr.s p.1 4 = .deny ∧ t = s.setMem (storeSlots s.cfg.endian s.mem pre) := by
  induction slots generalizing s with
  | nil => cases h
  | cons p rest ih =>
    obtain ⟨a, v⟩ := p
    unfold storeWords storeAligned at h
    rcases Res.andThen_eq_raise h with h | ⟨u, hu, h⟩
    · obtain ⟨rfl, he, hv⟩ := guardAccess_eq_raise (Res.map_eq_raise h)
      exact ⟨he, [], (a, v), rest, rfl, hv, rfl⟩
    · obtain ⟨w, _, rfl⟩ := Res.map_eq_ok hu
      obtain ⟨he, pre, p, post, rfl, hv, rfl⟩ := ih h
      exact ⟨he, (a, v) :: pre, p, post, rfl, hv, rfl⟩

theorem storeSlots_wf {e : Endian} {m : Memory} (h : m.wf = true) (slots : List (Word × Word)) :
    (storeSlots e m slots).wf = true := by
  induction slots generalizing m with
  | nil => exact h
  | cons p rest ih => exact ih (Memory.wf_writeBytes h _ _)

/-- A byte outside every slot is unchanged. -/
theorem storeSlots_read_outside (e : Endian) (m : Memory) (slots : List (Word × Word)) (x : Word)
    (h : ∀ p ∈ slots, 4 ≤ (x - p.1).toNat) : (storeSlots e m slots).read x = m.read x := by
  induction slots generalizing m with
  | nil => rfl
  | cons p rest ih =>
    obtain ⟨a, v⟩ := p
    simp only [storeSlots]
    rw [ih _ (fun q hq => h q (List.mem_cons_of_mem _ hq))]
    have hl : (wordBytes e v).length = 4 := by cases e <;> rfl
    exact Memory.read_writeBytes_outside _ _ _ _ (by omega) (by rw [hl]; exact h (a, v) (List.mem_cons_self ..))

/-! Taking an exception (60_exceptions.md R410 to R420) -/

theorem vectorWord_cases (s : State) (v : BitVec 8) :
    (accessVerdict s .fetch true (v.setWidth 32 <<< 2) 4 = .permit ∧
        vectorWord s v = .ok (s.mem.readWord s.cfg.endian (v.setWidth 32 <<< 2))) ∨
      vectorWord s v = .raise .accessError s ∨ ∃ r, vectorWord s v = .refuse r := by
  unfold vectorWord
  cases h : accessVerdict s .fetch true (v.setWidth 32 <<< 2) 4 <;> simp [h]

/-- The state after the context is saved a second time (60_exceptions.md R418). -/
def savedTwice (s : State) : State := saveContext 8 false s.epc s

theorem vectorTo_next {v : BitVec 8} {s t : State} (h : vectorTo v s = .next t) :
    (∃ w, t = enterHandler w s) ∨ (∃ w, t = enterHandler w (savedTwice s)) ∨
      t = { savedTwice s with runState := .stuck } := by
  unfold vectorTo at h
  rcases vectorWord_cases s v with ⟨_, hw⟩ | hw | ⟨r, hw⟩ <;> rw [hw] at h
  · cases h; exact .inl ⟨_, rfl⟩
  · unfold vectorFault at h
    rcases vectorWord_cases (savedTwice s) 8 with ⟨_, hw'⟩ | hw' | ⟨r, hw'⟩ <;>
      simp only [savedTwice] at hw' <;> simp only [hw'] at h
    · cases h; exact .inr (.inl ⟨_, rfl⟩)
    · cases h; exact .inr (.inr rfl)
    · cases h
  · cases h

theorem vectorTo_ne_fault (v : BitVec 8) (s : State) (f : Fault) : vectorTo v s ≠ .fault f := by
  unfold vectorTo vectorFault
  rcases vectorWord_cases s v with ⟨_, hw⟩ | hw | ⟨r, hw⟩ <;> rw [hw]
  · simp
  · rcases vectorWord_cases (saveContext 8 false s.epc s) 8 with ⟨_, hw'⟩ | hw' | ⟨r, hw'⟩ <;> simp only [hw'] <;> simp
  · simp

/-- Everything an exception entry can have done when it answers a next state. -/
structure Entered (ret : Word) (s t : State) : Prop where
  cfg : t.cfg = s.cfg
  regs : t.regs = s.regs
  epc : t.epc = ret
  super : t.psr.s = true
  ee : t.psr.ee = false
  ie : t.psr.ie = false
  mm : t.psr.mm = s.psr.mm
  ic : t.psr.ic = s.psr.ic
  gcr : t.gcr = s.gcr
  mp : t.mp = s.mp
  capr : t.capr = s.capr
  pacr : t.pacr = s.pacr
  rid : t.rid = s.rid
  iae : t.iae = s.iae
  idlyCnt : t.idlyCnt = 0
  mem : t.mem = s.mem
  window : t.window = []
  inputs : t.inputs = s.inputs
  free : t.free = s.free
  place : (t.runState = .running ∧ t.pc.getLsbD 0 = false) ∨ (t.runState = .stuck ∧ t.pc = s.pc)

/-- An exception entry that answers a next state has saved the context and gone to a handler, or is stuck. -/
theorem exceptionEntry_next {v : BitVec 8} {q : Bool} {ret : Word} {s t : State} (h : exceptionEntry v q ret s = .next t) :
    Entered ret s t := by
  rcases vectorTo_next h with ⟨w, rfl⟩ | ⟨w, rfl⟩ | rfl
  · constructor <;> simp
  · constructor <;> simp [savedTwice]
  · constructor <;> simp [savedTwice, saveContext]

theorem takeException_next {e : Exc} {s t : State} (h : takeException e s = .next t) : Entered s.pc s t :=
  exceptionEntry_next h

/-- Where the vector word may be fetched, the entry is the one of 60_exceptions.md R410. -/
theorem exceptionEntry_of_permit {v : BitVec 8} {q : Bool} {ret : Word} {s : State}
    (h : accessVerdict s .fetch true ((effectiveVector v q s).setWidth 32 <<< 2) 4 = .permit) :
    exceptionEntry v q ret s =
      .next (enterHandler (s.mem.readWord s.cfg.endian ((effectiveVector v q s).setWidth 32 <<< 2))
        (saveContext (effectiveVector v q s) q ret s)) := by
  unfold exceptionEntry vectorTo vectorWord
  have h' : accessVerdict (saveContext (effectiveVector v q s) q ret s) .fetch true
      ((effectiveVector v q s).setWidth 32 <<< 2) 4 = .permit := h
  simp only [h']
  rfl

theorem exceptionEntry_ne_fault (v : BitVec 8) (q : Bool) (ret : Word) (s : State) (f : Fault) :
    exceptionEntry v q ret s ≠ .fault f := vectorTo_ne_fault _ _ _

/-! The ends of instructions -/

/-- The outcome of an operation: its state, or the exception it raised, taken. -/
theorem finish_next {r : Res State} {t : State} (h : finish r = .next t) :
    r = .ok t ∨ ∃ e u, r = .raise e u ∧ takeException e u = .next t := by
  cases r with
  | ok s => cases h; exact .inl rfl
  | raise e u => exact .inr ⟨e, u, rfl, h⟩
  | refuse q => cases h

/-- A load that answers a next state: the register is written, or an exception is taken in the state as it was. -/
theorem loadTo_next {n : Reg} {sz : Size} {a ilen : Word} {s t : State} (h : loadTo n sz a ilen s = .next t) :
    t = (s.setReg n (readData s sz (alignDown sz a))).advance ilen ∨ Entered s.pc s t := by
  rcases finish_next h with h | ⟨e, u, h, ht⟩
  · obtain ⟨v, hv, rfl⟩ := Res.map_eq_ok h
    obtain ⟨_, _, rfl⟩ := load_eq_ok.mp hv
    exact .inl rfl
  · obtain ⟨rfl, _⟩ := load_eq_raise (Res.map_eq_raise h)
    exact .inr (takeException_next ht)

/-- A store that answers a next state: memory is written, or an exception is taken in the state as it was. -/
theorem storeFrom_next {v : Word} {sz : Size} {a ilen : Word} {s t : State} (h : storeFrom v sz a ilen s = .next t) :
    t = (writeData s sz (alignDown sz a) v).advance ilen ∨ Entered s.pc s t := by
  rcases finish_next h with h | ⟨e, u, h, ht⟩
  · obtain ⟨w, hw, rfl⟩ := Res.map_eq_ok h
    obtain ⟨_, _, rfl⟩ := store_eq_ok.mp hw
    exact .inl rfl
  · obtain ⟨rfl, _⟩ := store_eq_raise (Res.map_eq_raise h)
    exact .inr (takeException_next ht)

/-- Where a load may be made, it completes. -/
theorem loadTo_of_permit {n : Reg} {sz : Size} {a ilen : Word} {s : State} (ha : alignedOrMasked s sz a)
    (hp : accessVerdict s .read s.psr.s (alignDown sz a) sz.bytes = .permit) :
    loadTo n sz a ilen s = .next ((s.setReg n (readData s sz (alignDown sz a))).advance ilen) := by
  unfold loadTo
  rw [load_eq_ok.mpr ⟨ha, hp, rfl⟩]
  rfl

/-- Where a store may be made, it completes. -/
theorem storeFrom_of_permit {v : Word} {sz : Size} {a ilen : Word} {s : State} (ha : alignedOrMasked s sz a)
    (hp : accessVerdict s .write s.psr.s (alignDown sz a) sz.bytes = .permit) :
    storeFrom v sz a ilen s = .next ((writeData s sz (alignDown sz a) v).advance ilen) := by
  unfold storeFrom
  rw [store_eq_ok.mpr ⟨ha, hp, rfl⟩]
  rfl

theorem wordSlots_length (a : Word) (vs : List Word) : (wordSlots a vs).length = vs.length := by
  induction vs generalizing a with
  | nil => rfl
  | cons v vs ih => simp [wordSlots, ih]

/-- PUSH16, IPUSH16: where SP is aligned and every word may be written, the words are stored and SP goes down. -/
theorem pushRegs_eq_ok {rs : List Reg} {s t : State} : pushRegs rs s = .ok t ↔
    misaligned .word (s.reg sp) = false ∧
      (∀ p ∈ wordSlots (s.reg sp - BitVec.ofNat 32 (4 * rs.length)) (rs.map s.reg),
        accessVerdict s .write s.psr.s p.1 4 = .permit) ∧
      t = (s.setMem (storeSlots s.cfg.endian s.mem
        (wordSlots (s.reg sp - BitVec.ofNat 32 (4 * rs.length)) (rs.map s.reg)))).setReg sp
          (s.reg sp - BitVec.ofNat 32 (4 * rs.length)) := by
  unfold pushRegs
  rcases alignedSp_cases s with ⟨ha, he⟩ | ⟨ha, he⟩
  · simp only [he, ha, Res.andThen_ok, true_and]
    constructor
    · intro h
      obtain ⟨u, hu, rfl⟩ := Res.map_eq_ok h
      obtain ⟨hp, rfl⟩ := storeWords_eq_ok.mp hu
      exact ⟨hp, rfl⟩
    · rintro ⟨hp, rfl⟩
      rw [storeWords_eq_ok.mpr ⟨hp, rfl⟩]
      rfl
  · simp [he, ha]

/-- A fault of PUSH16, IPUSH16: only memory may have changed (43_load_store.md R323). -/
theorem pushRegs_eq_raise {rs : List Reg} {s t : State} {e : Exc} (h : pushRegs rs s = .raise e t) :
    ∃ pre post, wordSlots (s.reg sp - BitVec.ofNat 32 (4 * rs.length)) (rs.map s.reg) = pre ++ post ∧
      t = s.setMem (storeSlots s.cfg.endian s.mem pre) := by
  unfold pushRegs at h
  rcases alignedSp_cases s with ⟨_, he⟩ | ⟨_, he⟩
  · simp only [he, Res.andThen_ok] at h
    obtain ⟨_, pre, p, post, hs, _, rfl⟩ := storeWords_eq_raise (Res.map_eq_raise h)
    exact ⟨pre, p :: post, hs, rfl⟩
  · simp only [he, Res.andThen_raise] at h
    cases h
    exact ⟨[], _, rfl, rfl⟩

/-- POP16, IPOP16: where SP is aligned and every word may be read, the registers are loaded and SP goes up. -/
theorem popRegs_eq_ok {rs : List Reg} {s t : State} : popRegs rs s = .ok t ↔
    misaligned .word (s.reg sp) = false ∧ wordsPermitted s .read (s.reg sp) rs.length ∧
      t = (setRegs s rs (wordsAt s (s.reg sp) rs.length)).setReg sp (s.reg sp + BitVec.ofNat 32 (4 * rs.length)) := by
  unfold popRegs
  rcases alignedSp_cases s with ⟨ha, he⟩ | ⟨ha, he⟩
  · simp only [he, ha, Res.andThen_ok, true_and]
    constructor
    · intro h
      obtain ⟨vs, hv, rfl⟩ := Res.map_eq_ok h
      obtain ⟨hp, rfl⟩ := loadWords_eq_ok.mp hv
      exact ⟨hp, rfl⟩
    · rintro ⟨hp, rfl⟩
      rw [loadWords_eq_ok.mpr ⟨hp, rfl⟩]
      rfl
  · simp [he, ha]

/-- A fault of POP16, IPOP16 changes nothing. -/
theorem popRegs_eq_raise {rs : List Reg} {s t : State} {e : Exc} (h : popRegs rs s = .raise e t) : t = s := by
  unfold popRegs at h
  rcases alignedSp_cases s with ⟨_, he⟩ | ⟨_, he⟩
  · simp only [he, Res.andThen_ok] at h
    exact (loadWords_eq_raise (Res.map_eq_raise h)).1
  · simp only [he, Res.andThen_raise] at h
    cases h
    rfl

/-- Loading registers changes nothing but the general registers. -/
theorem setRegs_eq (s : State) (ns : List Reg) (vs : List Word) : ∃ r, setRegs s ns vs = { s with regs := r } := by
  induction ns generalizing s vs with
  | nil => exact ⟨s.regs, by cases vs <;> rfl⟩
  | cons n ns ih =>
    cases vs with
    | nil => exact ⟨s.regs, rfl⟩
    | cons v vs =>
      obtain ⟨r, hr⟩ := ih (s.setReg n v) vs
      exact ⟨r, by rw [setRegs, hr]; rfl⟩

/-- A register that is not loaded keeps its value. -/
theorem setRegs_reg_of_not_mem (s : State) (ns : List Reg) (vs : List Word) (k : Reg) (h : k ∉ ns) :
    (setRegs s ns vs).reg k = s.reg k := by
  induction ns generalizing s vs with
  | nil => cases vs <;> rfl
  | cons n ns ih =>
    cases vs with
    | nil => rfl
    | cons v vs =>
      simp only [List.mem_cons, not_or] at h
      rw [setRegs, ih _ _ h.2, State.reg_setReg_ne _ _ _ _ h.1]

/-- A register loaded once holds its word; r9 to r12 drop it. -/
theorem setRegs_reg (s : State) (ns : List Reg) (vs : List Word) (hn : ns.Nodup) (j : Nat) (hj : j < ns.length)
    (hl : vs.length = ns.length) :
    (setRegs s ns vs).reg ns[j] = if implementedReg ns[j] then vs[j]'(hl ▸ hj) else 0 := by
  induction ns generalizing s vs j with
  | nil => cases hj
  | cons n ns ih =>
    cases vs with
    | nil => cases hl
    | cons v vs =>
      rw [List.nodup_cons] at hn
      cases j with
      | zero =>
        simp only [List.getElem_cons_zero, setRegs]
        rw [setRegs_reg_of_not_mem _ _ _ _ hn.1, State.reg_setReg_same]
      | succ j =>
        simp only [List.getElem_cons_succ, setRegs]
        exact ih _ _ hn.2 j (by simpa using hj) (by simpa using hl)

/-- A privileged instruction in supervisor mode. -/
theorem privileged_super {s : State} {k : Out} (h : s.psr.s = true) : privileged s k = k := by
  simp [privileged, h]

/-- A privileged instruction in user mode (44_privileged_special.md R340). -/
theorem privileged_user {s : State} {k : Out} (h : s.psr.s = false) : privileged s k = takeException .privilege s := by
  simp [privileged, h]

/-- A write of a control register by MTCR32 that is accepted changes none but that register. -/
theorem writeCr_frame {n sel : BitVec 5} {v : Word} {s t : State} (h : writeCr n sel v s = .ok t) :
    t.cfg = s.cfg ∧ t.regs = s.regs ∧ t.pc = s.pc ∧ t.idlyCnt = s.idlyCnt ∧ t.runState = s.runState ∧ t.mem = s.mem ∧
      t.inputs = s.inputs ∧ t.free = s.free := by
  unfold writeCr at h
  split at h
  · cases h; simp
  · split at h
    all_goals try (cases h; simp; done)
    · cases h; split <;> simp
    · unfold writeCcr at h
      split at h
      · cases h; simp
      · split at h
        · cases h
        · cases h; simp
    all_goals (cases h; split <;> simp)

/-- MTCR32 raises no exception but for the software-reset key. -/
theorem writeCr_ne_raise (n sel : BitVec 5) (v : Word) (s : State) (e : Exc) (t : State) : writeCr n sel v s ≠ .raise e t := by
  unfold writeCr writeCcr
  repeat' split
  all_goals simp

/-! Protection (20_memory.md R120 to R124) -/

/-- The MPU is absent or off: every access is permitted (20_memory.md R120). -/
theorem mpuVerdict_off {s : State} {k : AccessKind} {u : Bool} {a : Word} (h : s.cfg.mpuRegions = 0 ∨ s.mp = 0) :
    mpuVerdict s k u a = .permit := by
  rw [mpuVerdict, if_pos h]

theorem touches_eq_true {r : AddrRange} {a : Word} {n : Nat} : touches r a n = true ↔
    ∃ k < n, r.first ≤ (a + BitVec.ofNat 32 k).toNat ∧ (a + BitVec.ofNat 32 k).toNat ≤ r.last := by
  simp [touches, inRange]

theorem busError_eq_true {c : Config} {kind : AccessKind} {a : Word} {n : Nat} : busError c kind a n = true ↔
    ∃ r ∈ c.busErrors, r.kind = kind ∧ n ∈ r.sizes ∧ touches r.range a n = true := by
  simp [busError, and_assoc]

theorem inTcip_eq_true {c : Config} {a : Word} {n : Nat} : inTcip c a n = true ↔
    ∃ r ∈ c.tcip, touches r a n = true := by
  simp [inTcip]

/-- With the MPU off, no bus error and no device window, every access is permitted. -/
theorem accessVerdict_flat {s : State} {k : AccessKind} {u : Bool} {a : Word} {n : Nat}
    (h : s.cfg.mpuRegions = 0 ∨ s.mp = 0) (hb : s.cfg.busErrors = []) (ht : s.cfg.tcip = []) :
    accessVerdict s k u a n = .permit := by
  simp [accessVerdict, mpuVerdict_off h, busError, inTcip, hb, ht]

/-! Instruction fetch (20_memory.md R112, R133) -/

/-- A halfword inside the window is the prefetched one. -/
theorem codeHalf_of_window {s : State} {k : Nat} {h : Half} (a : Word) (hk : k < s.cfg.ifetchPrefetch.val)
    (hw : s.window[k]? = some h) : s.codeHalf k a = h := by
  simp [State.codeHalf, hk, hw]

/-- A halfword outside the window is the one memory holds. -/
theorem codeHalf_of_memory {s : State} {k : Nat} (a : Word) (hk : s.cfg.ifetchPrefetch.val ≤ k ∨ s.window.length ≤ k) :
    s.codeHalf k a = s.mem.readHalf s.cfg.endian a := by
  have : (s.window.take s.cfg.ifetchPrefetch.val)[k]? = none := by
    rw [List.getElem?_eq_none_iff, List.length_take]
    omega
  simp [State.codeHalf, this]

theorem length_window_prefetch (n : Nat) (s : State) : (prefetch n s).window.length = s.cfg.ifetchPrefetch.val := by
  simp [prefetch]

/-- A halfword of the window is the one that a fetch at its place gave before the instruction. -/
theorem getElem?_window_prefetch {n k : Nat} {s : State} {h : Half} (hw : (prefetch n s).window[k]? = some h) :
    h = s.codeHalf (n + k) (s.pc + BitVec.ofNat 32 (2 * (n + k))) := by
  obtain ⟨hk, hh⟩ := List.getElem?_eq_some_iff.mp hw
  simpa [prefetch] using hh.symm

/-! The boundary (10_state.md R75) -/

@[simp] theorem unlessAccelerated_of_false {s : State} (p : Plan) (h : s.iae = false) : unlessAccelerated s p = p := by
  simp [unlessAccelerated, h]

@[simp] theorem unlessAccelerated_of_true {s : State} (p : Plan) (h : s.iae = true) :
    unlessAccelerated s p = .stop (.refused .acceleratedInterrupt) := by
  simp [unlessAccelerated, h]

end Sys2Proof.Machine
end

