-- ==== Sys2Proof/Laws/Invariant.lean ====
section
/-! SUPPORT. What each shared operation does to the invariant of Safety.lean. -/

namespace Sys2Proof.Machine

theorem State.Inv.setReg {s : State} (h : s.Inv) (n : Reg) (v : Word) : (s.setReg n v).Inv :=
  ⟨h.pcEven, h.memWf, h.idlyBound, h.mpLegal, h.mpAbsent, h.caprMasked, h.pacrAbsent, h.ridAbsent, h.iaeAbsent, h.gcrAbsent,
    h.windowBound, h.idlyRunning, h.stoppedSuper⟩

theorem State.Inv.setC {s : State} (h : s.Inv) (b : Bool) : (s.setC b).Inv :=
  ⟨h.pcEven, h.memWf, h.idlyBound, h.mpLegal, h.mpAbsent, h.caprMasked, h.pacrAbsent, h.ridAbsent, h.iaeAbsent, h.gcrAbsent,
    h.windowBound, h.idlyRunning, h.stoppedSuper⟩

theorem State.Inv.setPc {s : State} (h : s.Inv) {a : Word} (ha : a.getLsbD 0 = false) : (s.setPc a).Inv :=
  ⟨ha, h.memWf, h.idlyBound, h.mpLegal, h.mpAbsent, h.caprMasked, h.pacrAbsent, h.ridAbsent, h.iaeAbsent, h.gcrAbsent,
    h.windowBound, h.idlyRunning, h.stoppedSuper⟩

/-- A control transfer keeps the invariant. -/
theorem State.Inv.jump {s : State} (h : s.Inv) {a : Word} (ha : a.getLsbD 0 = false) : (s.jump a).Inv :=
  ⟨ha, h.memWf, h.idlyBound, h.mpLegal, h.mpAbsent, h.caprMasked, h.pacrAbsent, h.ridAbsent, h.iaeAbsent, h.gcrAbsent,
    Nat.zero_le _, h.idlyRunning, h.stoppedSuper⟩

/-- Filling the window keeps the invariant. -/
theorem State.Inv.prefetch {s : State} (h : s.Inv) (n : Nat) : (prefetch n s).Inv :=
  ⟨h.pcEven, h.memWf, h.idlyBound, h.mpLegal, h.mpAbsent, h.caprMasked, h.pacrAbsent, h.ridAbsent, h.iaeAbsent, h.gcrAbsent,
    Nat.le_of_eq (length_window_prefetch n s), h.idlyRunning, h.stoppedSuper⟩

theorem State.Inv.setMem {s : State} (h : s.Inv) {m : Memory} (hm : m.wf = true) : (s.setMem m).Inv :=
  ⟨h.pcEven, hm, h.idlyBound, h.mpLegal, h.mpAbsent, h.caprMasked, h.pacrAbsent, h.ridAbsent, h.iaeAbsent, h.gcrAbsent,
    h.windowBound, h.idlyRunning, h.stoppedSuper⟩

/-- The sum of even addresses is even. -/
theorem even_add {a b : Word} (ha : a.getLsbD 0 = false) (hb : b.getLsbD 0 = false) : (a + b).getLsbD 0 = false := by
  rw [BitVec.getLsbD_add (by decide), ha, hb]
  simp

theorem even_evenAddr (a : Word) : (evenAddr a).getLsbD 0 = false := by
  simp [evenAddr]

/-- A branch displacement is even (42_branch_jump.md R287). -/
theorem even_displacement {n : Nat} (offset : BitVec n) : (displacement offset).getLsbD 0 = false := by
  unfold displacement
  rw [BitVec.getLsbD_signExtend]
  simp only [BitVec.getLsbD_append]
  simp

theorem State.Inv.advance {s : State} (h : s.Inv) {n : Word} (hn : n.getLsbD 0 = false) : (s.advance n).Inv :=
  h.setPc (even_add h.pcEven hn)

theorem State.Inv.writeData {s : State} (h : s.Inv) (sz : Size) (a v : Word) : (writeData s sz a v).Inv :=
  h.setMem (Memory.wf_writeBytes h.memWf _ _)

/-- Loading registers keeps the invariant. -/
theorem State.Inv.setRegs {s : State} (h : s.Inv) (ns : List Reg) (vs : List Word) : (setRegs s ns vs).Inv := by
  obtain ⟨r, hr⟩ := setRegs_eq s ns vs
  rw [hr]
  exact ⟨h.pcEven, h.memWf, h.idlyBound, h.mpLegal, h.mpAbsent, h.caprMasked, h.pacrAbsent, h.ridAbsent, h.iaeAbsent,
    h.gcrAbsent, h.windowBound, h.idlyRunning, h.stoppedSuper⟩

/-- Taking an exception keeps the invariant. -/
theorem State.Inv.entered {s t : State} {ret : Word} (h : s.Inv) (e : Entered ret s t) : t.Inv where
  pcEven := by
    rcases e.place with ⟨_, hp⟩ | ⟨_, hp⟩
    · exact hp
    · rw [hp]; exact h.pcEven
  memWf := by rw [e.mem]; exact h.memWf
  idlyBound := by rw [e.idlyCnt]; exact Nat.zero_le _
  mpLegal := by rw [e.mp]; exact h.mpLegal
  mpAbsent := by rw [e.mp, e.cfg]; exact h.mpAbsent
  caprMasked := by rw [e.capr, e.cfg]; exact h.caprMasked
  pacrAbsent := by
    intro n hn
    rw [e.cfg] at hn
    have := h.pacrAbsent n hn
    simpa only [e.pacr] using this
  ridAbsent := by rw [e.rid, e.cfg]; exact h.ridAbsent
  iaeAbsent := by rw [e.iae, e.cfg]; exact h.iaeAbsent
  gcrAbsent := by rw [e.gcr, e.cfg]; exact h.gcrAbsent
  windowBound := by rw [e.window]; exact Nat.zero_le _
  idlyRunning := fun _ => e.idlyCnt
  stoppedSuper := fun _ => e.super

end Sys2Proof.Machine
end

