-- ==== Sys2Proof/Laws/PerInstr.lean ====
section
/-! SUPPORT. The family LengthTag: the word an instruction encodes to has the length its leading bits say (30_encoding.md
R150), one lemma for each instruction. -/

namespace Sys2Proof.Laws

/-- Bits 15:14 of a 16-bit word are not both 1; bits 31:30 of a 32-bit word are. -/
def LengthTag.Statement (i : Instr) : Prop :=
  match encode i with
  | .half h => (h.getLsbD 15 && h.getLsbD 14) = false
  | .full w => (w.getLsbD 31 && w.getLsbD 30) = true

theorem LengthTag.holds (i : Instr) : LengthTag.Statement i := by
  cases i <;> simp only [LengthTag.Statement, encode, BitVec.getLsbD_append] <;> rfl

theorem LengthTag.bkpt16 : LengthTag.Statement .bkpt16 := LengthTag.holds _
theorem LengthTag.lrw16 (rz : BitVec 3) (imm1 : BitVec 1) (imm2 : BitVec 2) (imm5 : BitVec 5) : LengthTag.Statement (.lrw16 rz imm1 imm2 imm5) := LengthTag.holds _
theorem LengthTag.br16 (offset : BitVec 10) : LengthTag.Statement (.br16 offset) := LengthTag.holds _
theorem LengthTag.bt16 (offset : BitVec 10) : LengthTag.Statement (.bt16 offset) := LengthTag.holds _
theorem LengthTag.bf16 (offset : BitVec 10) : LengthTag.Statement (.bf16 offset) := LengthTag.holds _
theorem LengthTag.addi16SpSp (imm2 : BitVec 2) (imm5 : BitVec 5) : LengthTag.Statement (.addi16SpSp imm2 imm5) := LengthTag.holds _
theorem LengthTag.subi16SpSp (imm2 : BitVec 2) (imm5 : BitVec 5) : LengthTag.Statement (.subi16SpSp imm2 imm5) := LengthTag.holds _
theorem LengthTag.nie16 : LengthTag.Statement .nie16 := LengthTag.holds _
theorem LengthTag.nir16 : LengthTag.Statement .nir16 := LengthTag.holds _
theorem LengthTag.ipush16 : LengthTag.Statement .ipush16 := LengthTag.holds _
theorem LengthTag.ipop16 : LengthTag.Statement .ipop16 := LengthTag.holds _
theorem LengthTag.pop16 (r15 : BitVec 1) (list1 : BitVec 3) : LengthTag.Statement (.pop16 r15 list1) := LengthTag.holds _
theorem LengthTag.pop16List8 (r15 : BitVec 1) : LengthTag.Statement (.pop16List8 r15) := LengthTag.holds _
theorem LengthTag.push16 (r15 : BitVec 1) (list1 : BitVec 3) : LengthTag.Statement (.push16 r15 list1) := LengthTag.holds _
theorem LengthTag.push16List8 (r15 : BitVec 1) : LengthTag.Statement (.push16List8 r15) := LengthTag.holds _
theorem LengthTag.addi16RzSp (rz : BitVec 3) (imm8 : BitVec 8) : LengthTag.Statement (.addi16RzSp rz imm8) := LengthTag.holds _
theorem LengthTag.addi16Oimm8 (rz : BitVec 3) (imm8 : BitVec 8) : LengthTag.Statement (.addi16Oimm8 rz imm8) := LengthTag.holds _
theorem LengthTag.subi16Oimm8 (rz : BitVec 3) (imm8 : BitVec 8) : LengthTag.Statement (.subi16Oimm8 rz imm8) := LengthTag.holds _
theorem LengthTag.movi16 (rz : BitVec 3) (imm8 : BitVec 8) : LengthTag.Statement (.movi16 rz imm8) := LengthTag.holds _
theorem LengthTag.cmphsi16 (rx : BitVec 3) (imm5 : BitVec 5) : LengthTag.Statement (.cmphsi16 rx imm5) := LengthTag.holds _
theorem LengthTag.cmplti16 (rx : BitVec 3) (imm5 : BitVec 5) : LengthTag.Statement (.cmplti16 rx imm5) := LengthTag.holds _
theorem LengthTag.cmpnei16 (rx : BitVec 3) (imm5 : BitVec 5) : LengthTag.Statement (.cmpnei16 rx imm5) := LengthTag.holds _
theorem LengthTag.bclri16 (rz : BitVec 3) (imm5 : BitVec 5) : LengthTag.Statement (.bclri16 rz imm5) := LengthTag.holds _
theorem LengthTag.bseti16 (rz : BitVec 3) (imm5 : BitVec 5) : LengthTag.Statement (.bseti16 rz imm5) := LengthTag.holds _
theorem LengthTag.btsti16 (rx : BitVec 3) (imm5 : BitVec 5) : LengthTag.Statement (.btsti16 rx imm5) := LengthTag.holds _
theorem LengthTag.lsli16 (rz : BitVec 3) (rx : BitVec 3) (imm5 : BitVec 5) : LengthTag.Statement (.lsli16 rz rx imm5) := LengthTag.holds _
theorem LengthTag.lsri16 (rz : BitVec 3) (rx : BitVec 3) (imm5 : BitVec 5) : LengthTag.Statement (.lsri16 rz rx imm5) := LengthTag.holds _
theorem LengthTag.asri16 (rz : BitVec 3) (rx : BitVec 3) (imm5 : BitVec 5) : LengthTag.Statement (.asri16 rz rx imm5) := LengthTag.holds _
theorem LengthTag.addu16RzRxRy (rz : BitVec 3) (rx : BitVec 3) (ry : BitVec 3) : LengthTag.Statement (.addu16RzRxRy rz rx ry) := LengthTag.holds _
theorem LengthTag.subu16RzRxRy (rz : BitVec 3) (rx : BitVec 3) (ry : BitVec 3) : LengthTag.Statement (.subu16RzRxRy rz rx ry) := LengthTag.holds _
theorem LengthTag.addi16Oimm3 (rz : BitVec 3) (rx : BitVec 3) (imm3 : BitVec 3) : LengthTag.Statement (.addi16Oimm3 rz rx imm3) := LengthTag.holds _
theorem LengthTag.subi16Oimm3 (rz : BitVec 3) (rx : BitVec 3) (imm3 : BitVec 3) : LengthTag.Statement (.subi16Oimm3 rz rx imm3) := LengthTag.holds _
theorem LengthTag.addu16RzRx (rz : BitVec 4) (rx : BitVec 4) : LengthTag.Statement (.addu16RzRx rz rx) := LengthTag.holds _
theorem LengthTag.addc16 (rz : BitVec 4) (rx : BitVec 4) : LengthTag.Statement (.addc16 rz rx) := LengthTag.holds _
theorem LengthTag.subu16RzRx (rz : BitVec 4) (rx : BitVec 4) : LengthTag.Statement (.subu16RzRx rz rx) := LengthTag.holds _
theorem LengthTag.subc16 (rz : BitVec 4) (rx : BitVec 4) : LengthTag.Statement (.subc16 rz rx) := LengthTag.holds _
theorem LengthTag.cmphs16 (rx : BitVec 4) (ry : BitVec 4) : LengthTag.Statement (.cmphs16 rx ry) := LengthTag.holds _
theorem LengthTag.cmplt16 (rx : BitVec 4) (ry : BitVec 4) : LengthTag.Statement (.cmplt16 rx ry) := LengthTag.holds _
theorem LengthTag.cmpne16 (rx : BitVec 4) (ry : BitVec 4) : LengthTag.Statement (.cmpne16 rx ry) := LengthTag.holds _
theorem LengthTag.mvcv16 (rz : BitVec 4) : LengthTag.Statement (.mvcv16 rz) := LengthTag.holds _
theorem LengthTag.and16 (rz : BitVec 4) (rx : BitVec 4) : LengthTag.Statement (.and16 rz rx) := LengthTag.holds _
theorem LengthTag.andn16 (rz : BitVec 4) (rx : BitVec 4) : LengthTag.Statement (.andn16 rz rx) := LengthTag.holds _
theorem LengthTag.tst16 (rx : BitVec 4) (ry : BitVec 4) : LengthTag.Statement (.tst16 rx ry) := LengthTag.holds _
theorem LengthTag.tstnbz16 (rx : BitVec 4) : LengthTag.Statement (.tstnbz16 rx) := LengthTag.holds _
theorem LengthTag.or16 (rz : BitVec 4) (rx : BitVec 4) : LengthTag.Statement (.or16 rz rx) := LengthTag.holds _
theorem LengthTag.xor16 (rz : BitVec 4) (rx : BitVec 4) : LengthTag.Statement (.xor16 rz rx) := LengthTag.holds _
theorem LengthTag.nor16 (rz : BitVec 4) (rx : BitVec 4) : LengthTag.Statement (.nor16 rz rx) := LengthTag.holds _
theorem LengthTag.mov16 (rz : BitVec 4) (rx : BitVec 4) : LengthTag.Statement (.mov16 rz rx) := LengthTag.holds _
theorem LengthTag.lsl16 (rz : BitVec 4) (rx : BitVec 4) : LengthTag.Statement (.lsl16 rz rx) := LengthTag.holds _
theorem LengthTag.lsr16 (rz : BitVec 4) (rx : BitVec 4) : LengthTag.Statement (.lsr16 rz rx) := LengthTag.holds _
theorem LengthTag.asr16 (rz : BitVec 4) (rx : BitVec 4) : LengthTag.Statement (.asr16 rz rx) := LengthTag.holds _
theorem LengthTag.rotl16 (rz : BitVec 4) (rx : BitVec 4) : LengthTag.Statement (.rotl16 rz rx) := LengthTag.holds _
theorem LengthTag.zextb16 (rz : BitVec 4) (rx : BitVec 4) : LengthTag.Statement (.zextb16 rz rx) := LengthTag.holds _
theorem LengthTag.zexth16 (rz : BitVec 4) (rx : BitVec 4) : LengthTag.Statement (.zexth16 rz rx) := LengthTag.holds _
theorem LengthTag.sextb16 (rz : BitVec 4) (rx : BitVec 4) : LengthTag.Statement (.sextb16 rz rx) := LengthTag.holds _
theorem LengthTag.sexth16 (rz : BitVec 4) (rx : BitVec 4) : LengthTag.Statement (.sexth16 rz rx) := LengthTag.holds _
theorem LengthTag.jmp16 (rx : BitVec 4) : LengthTag.Statement (.jmp16 rx) := LengthTag.holds _
theorem LengthTag.jsr16 (rx : BitVec 4) : LengthTag.Statement (.jsr16 rx) := LengthTag.holds _
theorem LengthTag.mult16 (rz : BitVec 4) (rx : BitVec 4) : LengthTag.Statement (.mult16 rz rx) := LengthTag.holds _
theorem LengthTag.ld16b (rz : BitVec 3) (rx : BitVec 3) (imm5 : BitVec 5) : LengthTag.Statement (.ld16b rz rx imm5) := LengthTag.holds _
theorem LengthTag.ld16h (rz : BitVec 3) (rx : BitVec 3) (imm5 : BitVec 5) : LengthTag.Statement (.ld16h rz rx imm5) := LengthTag.holds _
theorem LengthTag.ld16w (rz : BitVec 3) (rx : BitVec 3) (imm5 : BitVec 5) : LengthTag.Statement (.ld16w rz rx imm5) := LengthTag.holds _
theorem LengthTag.ld16wSp (rz : BitVec 3) (imm3 : BitVec 3) (imm5 : BitVec 5) : LengthTag.Statement (.ld16wSp rz imm3 imm5) := LengthTag.holds _
theorem LengthTag.st16b (rz : BitVec 3) (rx : BitVec 3) (imm5 : BitVec 5) : LengthTag.Statement (.st16b rz rx imm5) := LengthTag.holds _
theorem LengthTag.st16h (rz : BitVec 3) (rx : BitVec 3) (imm5 : BitVec 5) : LengthTag.Statement (.st16h rz rx imm5) := LengthTag.holds _
theorem LengthTag.st16w (rz : BitVec 3) (rx : BitVec 3) (imm5 : BitVec 5) : LengthTag.Statement (.st16w rz rx imm5) := LengthTag.holds _
theorem LengthTag.st16wSp (rz : BitVec 3) (imm3 : BitVec 3) (imm5 : BitVec 5) : LengthTag.Statement (.st16wSp rz imm3 imm5) := LengthTag.holds _
theorem LengthTag.sync32 : LengthTag.Statement .sync32 := LengthTag.holds _
theorem LengthTag.idly32 (imm5 : BitVec 5) : LengthTag.Statement (.idly32 imm5) := LengthTag.holds _
theorem LengthTag.trap32 (n : BitVec 2) : LengthTag.Statement (.trap32 n) := LengthTag.holds _
theorem LengthTag.rte32 : LengthTag.Statement .rte32 := LengthTag.holds _
theorem LengthTag.stop32 : LengthTag.Statement .stop32 := LengthTag.holds _
theorem LengthTag.wait32 : LengthTag.Statement .wait32 := LengthTag.holds _
theorem LengthTag.doze32 : LengthTag.Statement .doze32 := LengthTag.holds _
theorem LengthTag.mfcr32 (rz : BitVec 4) (crx : BitVec 5) (sel : BitVec 5) : LengthTag.Statement (.mfcr32 rz crx sel) := LengthTag.holds _
theorem LengthTag.mtcr32 (rx : BitVec 4) (crz : BitVec 5) (sel : BitVec 5) : LengthTag.Statement (.mtcr32 rx crz sel) := LengthTag.holds _
theorem LengthTag.psrclr32 (imm5 : BitVec 5) : LengthTag.Statement (.psrclr32 imm5) := LengthTag.holds _
theorem LengthTag.psrset32 (imm5 : BitVec 5) : LengthTag.Statement (.psrset32 imm5) := LengthTag.holds _
theorem LengthTag.ld32b (rz : BitVec 4) (rx : BitVec 4) (imm12 : BitVec 12) : LengthTag.Statement (.ld32b rz rx imm12) := LengthTag.holds _
theorem LengthTag.ld32h (rz : BitVec 4) (rx : BitVec 4) (imm12 : BitVec 12) : LengthTag.Statement (.ld32h rz rx imm12) := LengthTag.holds _
theorem LengthTag.ld32w (rz : BitVec 4) (rx : BitVec 4) (imm12 : BitVec 12) : LengthTag.Statement (.ld32w rz rx imm12) := LengthTag.holds _
theorem LengthTag.st32b (rz : BitVec 4) (rx : BitVec 4) (imm12 : BitVec 12) : LengthTag.Statement (.st32b rz rx imm12) := LengthTag.holds _
theorem LengthTag.st32h (rz : BitVec 4) (rx : BitVec 4) (imm12 : BitVec 12) : LengthTag.Statement (.st32h rz rx imm12) := LengthTag.holds _
theorem LengthTag.st32w (rz : BitVec 4) (rx : BitVec 4) (imm12 : BitVec 12) : LengthTag.Statement (.st32w rz rx imm12) := LengthTag.holds _
theorem LengthTag.bsr32 (offset : BitVec 26) : LengthTag.Statement (.bsr32 offset) := LengthTag.holds _
theorem LengthTag.br32 (offset : BitVec 16) : LengthTag.Statement (.br32 offset) := LengthTag.holds _
theorem LengthTag.lrw32 (rz : BitVec 4) (imm16 : BitVec 16) : LengthTag.Statement (.lrw32 rz imm16) := LengthTag.holds _

end Sys2Proof.Laws
end

