-- ==== Sys2Proof/Tests/Slice0.lean ====
section
/-! SUPPORT. Tests: the checks of well-formedness, one word of every instruction, single steps, and for each obligation with
hypotheses a state that meets them. Words and results are those that 95_test_vectors.md and 96_programs.md print. -/

open Sys2Proof Sys2Proof.Machine

/-! Well-formedness: each check refuses an ill-formed term -/

theorem test_wellFormed_refuses_zero_lrw16 : (Instr.lrw16 0 0 0 0).wellFormed Config.standard = false := by decide
theorem test_wellFormed_takes_next_lrw16 : (Instr.lrw16 0 0 0 1).wellFormed Config.standard = true := by decide
theorem test_wellFormed_refuses_absent_nesting :
    ([Instr.nie16, .nir16, .ipush16, .ipop16] : List _).all (fun i => decide
      (i.wellFormed { Config.standard with hasNestInt := false } = false)) = true := by
  decide

/-! Decoding: a word of every instruction (95_test_vectors.md sections 3 and 4) -/

theorem test_decode_add_subtract :
    ([(0x606C#16, Instr.addu16RzRx 1 11), (0x5A2C, .addu16RzRxRy 1 2 3), (0x6049, .addc16 1 2),
      (0x27FF, .addi16Oimm8 7 255), (0x5A3E, .addi16Oimm3 1 2 7), (0x1FFF, .addi16RzSp 7 255), (0x171F, .addi16SpSp 3 31),
      (0x1500, .addi16SpSp 1 0), (0x604A, .subu16RzRx 1 2), (0x5A2D, .subu16RzRxRy 1 2 3), (0x604B, .subc16 1 2),
      (0x2FFF, .subi16Oimm8 7 255), (0x5A23, .subi16Oimm3 1 2 0), (0x173F, .subi16SpSp 3 31)] : List _).all (fun p => decide
      (decodeWord Config.standard (.half p.1) = .ok p.2)) = true := by
  decide

theorem test_decode_logic_shift :
    ([(0x6848#16, Instr.and16 1 2), (0x6849, .andn16 1 2), (0x6FBC, .or16 14 15), (0x6C49, .xor16 1 2),
      (0x6C4A, .nor16 1 2), (0x7048, .lsl16 1 2), (0x7049, .lsr16 1 2), (0x704A, .asr16 1 2), (0x704B, .rotl16 1 2),
      (0x423F, .lsli16 1 2 31), (0x4A3F, .lsri16 1 2 31), (0x523F, .asri16 1 2 31)] : List _).all (fun p => decide
      (decodeWord Config.standard (.half p.1) = .ok p.2)) = true := by
  decide

theorem test_decode_compare :
    ([(0x6484#16, Instr.cmphs16 1 2), (0x6485, .cmplt16 1 2), (0x6486, .cmpne16 1 2), (0x391F, .cmphsi16 1 31),
      (0x393F, .cmplti16 1 31), (0x395F, .cmpnei16 1 31), (0x6886, .tst16 1 2), (0x6807, .tstnbz16 1),
      (0x39DF, .btsti16 1 31)] : List _).all (fun p => decide
      (decodeWord Config.standard (.half p.1) = .ok p.2)) = true := by
  decide

theorem test_decode_move_bit_extract_multiply :
    ([(0x6E87#16, Instr.mov16 10 1), (0x37FF, .movi16 7 255), (0x6443, .mvcv16 1), (0x399F, .bclri16 1 31),
      (0x39BF, .bseti16 1 31), (0x7444, .zextb16 1 1), (0x7445, .zexth16 1 1), (0x7446, .sextb16 1 1),
      (0x7447, .sexth16 1 1), (0x7C48, .mult16 1 2), (0x137F, .lrw16 3 1 3 31), (0x0320, .lrw16 1 0 3 0)] : List _).all (fun p => decide
      (decodeWord Config.standard (.half p.1) = .ok p.2)) = true := by
  decide

theorem test_decode_branch_jump :
    ([(0x05FF#16, Instr.br16 0x1FF), (0x0802, .bt16 2), (0x0C02, .bf16 2), (0x7804, .jmp16 1), (0x783C, .jmp16 15),
      (0x7805, .jsr16 1)] : List _).all (fun p => decide
      (decodeWord Config.standard (.half p.1) = .ok p.2)) = true := by
  decide

theorem test_decode_load_store :
    ([(0x823F#16, Instr.ld16b 1 2 31), (0x8A3F, .ld16h 1 2 31), (0x923F, .ld16w 1 2 31), (0x9F3F, .ld16wSp 1 7 31),
      (0xA23F, .st16b 1 2 31), (0xAA3F, .st16h 1 2 31), (0xB23F, .st16w 1 2 31), (0xBF3F, .st16wSp 1 7 31)] : List _).all (fun p => decide
      (decodeWord Config.standard (.half p.1) = .ok p.2)) = true := by
  decide

theorem test_decode_stack_system16 :
    ([(0x14D2#16, Instr.push16 1 2), (0x14C8, .push16List8 0), (0x1491, .pop16 1 1), (0x1498, .pop16List8 1),
      (0x1462, .ipush16), (0x1463, .ipop16), (0x1460, .nie16), (0x1461, .nir16), (0x0000, .bkpt16)] : List _).all (fun p => decide
      (decodeWord Config.standard (.half p.1) = .ok p.2)) = true := by
  decide

theorem test_decode_wide :
    ([(0xD8220FFF#32, Instr.ld32b 1 2 0xFFF), (0xD9E21FFF, .ld32h 15 2 0xFFF), (0xD8222FFF, .ld32w 1 2 0xFFF),
      (0xDC220FFF, .st32b 1 2 0xFFF), (0xDC221FFF, .st32h 1 2 0xFFF), (0xDDC22FFF, .st32w 14 2 0xFFF),
      (0xE1FFFFFF, .bsr32 0x1FFFFFF), (0xE8007FFF, .br32 0x7FFF), (0xEA8FFFFF, .lrw32 15 0xFFFF)] : List _).all (fun p => decide
      (decodeWord Config.standard (.full p.1) = .ok p.2)) = true := by
  decide

theorem test_decode_system32 :
    ([(0xC0000420#32, Instr.sync32), (0xC3E01C20, .idly32 31), (0xC0002420, .trap32 1), (0xC0004020, .rte32),
      (0xC0004820, .stop32), (0xC0004C20, .wait32), (0xC0005020, .doze32), (0xC00D6021, .mfcr32 1 13 0),
      (0xC0206021, .mfcr32 1 0 1), (0xC001643F, .mtcr32 1 31 0), (0xC0807020, .psrclr32 4), (0xC1807420, .psrset32 12)] : List _).all (fun p => decide
      (decodeWord Config.standard (.full p.1) = .ok p.2)) = true := by
  decide

theorem test_decode_illegal16 :
    ([0x1440#16, 0x1464, 0x147F, 0x1489, 0x14A0, 0x14CF, 0x14E0, 0x3860, 0x38E0, 0x6407, 0x6843, 0x7802, 0x7803, 0x7840,
      0x7BC1, 0x7C01, 0x7C02, 0x7C03] : List _).all (fun h => decide
      (decodeWord Config.standard (.half h) = .error (.unimplemented16 h))) = true := by
  decide

theorem test_decode_illegal32 :
    ([0xC0000000#32, 0xC0000020, 0xC0001820, 0xC0002030, 0xC0004021, 0xC0204020, 0xC0014020, 0xC0006030, 0xC0006040,
      0xC0106420, 0xC0017020, 0xC4000020, 0xC8000000, 0xD0000000, 0xD8003000, 0xDA000000, 0xD8100000, 0xE4000000, 0xE8010000,
      0xEA900000, 0xEAA00000, 0xF0000000, 0xFFFFFFFF] : List _).all (fun w => decide
      (decodeWord Config.standard (.full w) = .error (.unimplemented32 w))) = true := by
  decide

theorem test_decode_second_jsr16_pattern :
    decodeWord { Config.standard with jsr16Alt := true } (.half 0x7BC5#16) = .ok (.jsr16 1) := by decide

theorem test_decode_table_numbering :
    decodeTableWord 16 0x5A2C = some (.addu16RzRxRy 1 2 3) ∧ decodeTableWord 32 0xC0016433 = some (.mtcr32 1 19 0) := by
  decide

/-! Single steps, in the conventions of 95_test_vectors.md section 3 -/

/-- Supervisor mode, EE = 1, pc = 0x100, every register and byte 0. -/
def testStart : State := { State.reset with psr := Psr.ofImage 0x80000100, pc := 0x100 }

/-- The step of an instruction placed at the pc answers a next state with the property. -/
def testRuns (s : State) (nbits w : Nat) (p : State → Bool) : Bool :=
  match step (s.withFetchWord nbits w) with
  | .next t => p t
  | .fault _ => false
  | .refused _ => false

/-- A 16-bit word with r1, r2 and C before, r1 and C after. -/
def testRow (r : Nat × Word × Word × Bool × Word × Bool) : Bool :=
  testRuns (((testStart.setReg 1 r.2.1).setReg 2 r.2.2.1).setC r.2.2.2.1) 16 r.1 fun t =>
    t.reg 1 == r.2.2.2.2.1 && t.psr.c == r.2.2.2.2.2 && t.pc == 0x102

theorem test_step_add_subtract :
    ([(0x6044, 0x80000000, 0, true, 0, true), (0x606C, 0x55, 0, false, 0x55, false),
      (0x6049, 0xFFFFFFFF, 0xFFFFFFFF, true, 0xFFFFFFFF, true), (0x6049, 0x7FFFFFFF, 1, false, 0x80000000, false),
      (0x604A, 0, 1, true, 0xFFFFFFFF, true), (0x604B, 0, 0xFFFFFFFF, true, 1, false), (0x6047, 0x1234, 0, true, 0, true),
      (0x5A22, 0, 0x7FFFFFFF, false, 0x80000000, false), (0x5A23, 0, 0, false, 0xFFFFFFFF, false)] : List _).all testRow = true := by
  decide

theorem test_step_logic :
    ([(0x6848, 0xFF00FF00, 0x0FF00FF0, true, 0x0F000F00, true), (0x6849, 0xFFFFFFFF, 0x0000FFFF, false, 0xFFFF0000, false),
      (0x6C49, 0xAAAAAAAA, 0xFFFFFFFF, false, 0x55555555, false), (0x6C4A, 0xF0F00000, 0x0F0F0000, false, 0x0000FFFF, false),
      (0x6C46, 0x00FF00FF, 0, false, 0xFF00FF00, false)] : List _).all testRow = true := by
  decide

theorem test_step_shift :
    ([(0x7048, 0x80000001, 0x1F, false, 0x80000000, false), (0x7048, 0x80000001, 0x20, false, 0, false),
      (0x7049, 0x80000001, 0x40, false, 0x80000001, false), (0x704A, 0x80000001, 0x3F, false, 0xFFFFFFFF, false),
      (0x704B, 0x80000001, 4, true, 0x18, true), (0x704B, 0x80000001, 0x20, false, 0, false),
      (0x423F, 0, 0x12345679, false, 0x80000000, false), (0x4A3F, 0, 0x87654321, false, 1, false),
      (0x5221, 0, 0x87654321, false, 0xC3B2A190, false)] : List _).all testRow = true := by
  decide

theorem test_step_compare :
    ([(0x6484, 0x80000000, 0x7FFFFFFF, false, 0x80000000, true), (0x6485, 0x80000000, 0x7FFFFFFF, false, 0x80000000, true),
      (0x6486, 5, 5, true, 5, false), (0x391F, 0x1F, 0, true, 0x1F, false), (0x393F, 0x20, 0, true, 0x20, false),
      (0x395F, 0x1F, 0, true, 0x1F, false), (0x6886, 0x0F0F0F0F, 0xF0F0F0F0, true, 0x0F0F0F0F, false),
      (0x6807, 0x00FFFFFF, 0, true, 0x00FFFFFF, false), (0x39DF, 0x80000000, 0, false, 0x80000000, true)] : List _).all testRow = true := by
  decide

theorem test_step_move_bit_extract_multiply :
    ([(0x6443, 0x77, 0, false, 1, false), (0x399F, 0xFFFFFFFF, 0, true, 0x7FFFFFFF, true),
      (0x39BF, 0x7FFFFFFF, 0, false, 0xFFFFFFFF, false), (0x7446, 0x1FF, 0, false, 0xFFFFFFFF, false),
      (0x7447, 0x00017FFF, 0, false, 0x7FFF, false), (0x7444, 0xFFFFFFFF, 0, false, 0xFF, false),
      (0x7445, 0xFFFFFFFF, 0, false, 0xFFFF, false), (0x7C48, 0x00010001, 0x00010001, false, 0x00020001, false)] : List _).all testRow = true := by
  decide

theorem test_step_lrw16_backward_literal :
    testRuns { (writeData testStart .word 0x47C 0x11111111) with pc := 0x202 } 16 0x0320
      (fun t => t.reg 1 == 0x11111111 && t.pc == 0x204) = true := by
  decide

theorem test_step_lrw32_reach :
    testRuns (writeData testStart .word 0x400FC 0xCAFEF00D) 32 0xEA8FFFFF
      (fun t => t.reg 15 == 0xCAFEF00D && t.pc == 0x104) = true := by
  decide

theorem test_step_branches :
    testRuns { testStart with pc := 0x10 } 16 0x0600 (fun t => t.pc == 0xFFFFFC10) = true ∧
    testRuns { testStart.setC true with pc := 0x1000 } 16 0x0A00 (fun t => t.pc == 0xC00) = true ∧
    testRuns testStart 16 0x0C02 (fun t => t.pc == 0x104) = true ∧
    testRuns { testStart with pc := 0x1000 } 32 0xE8008000 (fun t => t.pc == 0xFFFF1000) = true := by
  decide

theorem test_step_bsr32 :
    testRuns { testStart with pc := 0x10000000 } 32 0xE2000000 (fun t => t.reg 15 == 0x10000004 && t.pc == 0x0C000000) = true := by
  decide

theorem test_step_jsr16_r15 :
    testRuns { testStart.setReg 15 0x2001 with pc := 0x300 } 16 0x783D (fun t => t.reg 15 == 0x302 && t.pc == 0x2000) = true := by
  decide

theorem test_step_jmp16_drops_bit0 :
    testRuns (testStart.setReg 1 0xFFFFFFFF) 16 0x7804 (fun t => t.pc == 0xFFFFFFFE) = true := by
  decide

/-- The eight bytes M8 of 95_test_vectors.md section 3, and r2. -/
def testBytes (s : State) (r2 : Word) : State :=
  (s.setMem (s.mem.writeBytes 0x20000000 [0x10, 0x32, 0x54, 0x76, 0x98, 0xBA, 0xDC, 0xFE])).setReg 2 r2

theorem test_step_loads :
    testRuns (testBytes testStart 0x1FFFFFE5) 16 0x823F (fun t => t.reg 1 == 0x98) = true ∧
    testRuns (testBytes testStart 0x1FFFFFC6) 16 0x8A3F (fun t => t.reg 1 == 0xBA98) = true ∧
    testRuns (testBytes testStart 0x1FFFFF84) 16 0x923F (fun t => t.reg 1 == 0x76543210) = true ∧
    testRuns ((testBytes testStart 0).setReg 14 0x1FFFFC08) 16 0x9F3F (fun t => t.reg 1 == 0xFEDCBA98) = true := by
  decide

theorem test_step_wide_loads :
    testRuns (testBytes testStart 0x1FFFF008) 32 0xD8220FFF (fun t => t.reg 1 == 0xFE && t.pc == 0x104) = true ∧
    testRuns (testBytes testStart 0x1FFFE008) 32 0xD9E21FFF (fun t => t.reg 15 == 0xFEDC) = true ∧
    testRuns (testBytes testStart 0x1FFFC004) 32 0xD8222FFF (fun t => t.reg 1 == 0x76543210) = true := by
  decide

theorem test_step_load_misaligned :
    testRuns (testBytes (writeData testStart .word 4 0x4010) 0x20000002) 16 0x9220
      (fun t => t.pc == 0x4010 && t.epc == 0x100 && t.psr.image == 0x80010000 && t.epsr.image == 0x80000100) = true := by
  decide

theorem test_step_load_misaligned_masked :
    testRuns (testBytes { testStart with psr := Psr.ofImage 0x80000300 } 0x20000003) 16 0x8A20
      (fun t => t.reg 1 == 0x7654 && t.pc == 0x102) = true := by
  decide

/-- The big-endian machine. -/
def testBig : State := { testStart with cfg := { Config.standard with endian := .big, beV2 := true } }

theorem test_step_big_endian :
    testRuns (testBytes testBig 0x20000004) 16 0x9220 (fun t => t.reg 1 == 0x98BADCFE) = true ∧
    testRuns ((testBytes testBig 0x20000000).setReg 1 0xAABBCCDD) 16 0xAA21
      (fun t => t.mem.read 0x20000002 == 0xCC && t.mem.read 0x20000003 == 0xDD) = true := by
  decide

/-- r1 = 0xAABBCCDD and r2. -/
def testStore (r2 : Word) : State := (testStart.setReg 1 0xAABBCCDD).setReg 2 r2

theorem test_step_stores :
    testRuns (testStore 0x20000000) 16 0xA23F (fun t => t.mem.readWord .little 0x2000001C == 0xDD000000) = true ∧
    testRuns (testStore 0x20000000) 16 0xAA3F (fun t => t.mem.readWord .little 0x2000003C == 0xCCDD0000) = true ∧
    testRuns (testStore 0x20000000) 16 0xB23F (fun t => t.mem.readWord .little 0x2000007C == 0xAABBCCDD) = true ∧
    testRuns ((testStore 0).setReg 14 0x20000000) 16 0xBF3F
      (fun t => t.mem.readWord .little 0x200003FC == 0xAABBCCDD) = true := by
  decide

theorem test_step_wide_stores :
    testRuns (testStore 0x20000001) 32 0xDC220FFF (fun t => t.mem.readWord .little 0x20001000 == 0xDD) = true ∧
    testRuns (testStore 0x20000002) 32 0xDC221FFF (fun t => t.mem.readWord .little 0x20002000 == 0xCCDD) = true ∧
    testRuns ((testStore 0x20000000).setReg 14 0x01020304) 32 0xDDC22FFF
      (fun t => t.mem.readWord .little 0x20003FFC == 0x01020304) = true := by
  decide

theorem test_step_push_wraps :
    testRuns (((testStart.setReg 4 0x44).setReg 15 0xFF0).setReg 14 4) 16 0x14D1
      (fun t => t.reg 14 == 0xFFFFFFFC && t.mem.readWord .little 0 == 0xFF0 && t.mem.readWord .little 0xFFFFFFFC == 0x44) =
      true := by
  decide

theorem test_step_push_list8 :
    testRuns ((testStart.setReg 8 0x88).setReg 14 0x20001000) 16 0x14C8
      (fun t => t.reg 14 == 0x20000FE0 && t.mem.readWord .little 0x20000FF0 == 0x88) = true := by
  decide

theorem test_step_pop_returns_through_old_r15 :
    testRuns (((writeData testStart .word 0x20000FFC 0x801).setReg 14 0x20000FFC).setReg 15 0x301) 16 0x1481
      (fun t => t.reg 4 == 0x801 && t.reg 14 == 0x20001000 && t.pc == 0x300) = true := by
  decide

theorem test_step_pop_list8 :
    testRuns ((writeData testStart .word 0x20000FFC 0x109).setReg 14 0x20000FDC) 16 0x1498
      (fun t => t.reg 15 == 0x109 && t.reg 14 == 0x20001000 && t.pc == 0x108) = true := by
  decide

theorem test_step_ipush16 :
    testRuns ((testStart.setReg 0 0xA0).setReg 13 0xAD |>.setReg 14 0x20001000) 16 0x1462
      (fun t => t.reg 14 == 0x20000FE8 && t.mem.readWord .little 0x20000FE8 == 0xA0 &&
        t.mem.readWord .little 0x20000FFC == 0xAD) = true := by
  decide

theorem test_step_ipop16 :
    testRuns ((writeData testStart .word 0x20000FFC 0xB5).setReg 14 0x20000FE8) 16 0x1463
      (fun t => t.reg 13 == 0xB5 && t.reg 14 == 0x20001000 && t.pc == 0x102) = true := by
  decide

theorem test_step_mfcr32_cpuidr :
    testRuns testStart 32 0xC00D6021 (fun t => t.reg 1 == 0x04880003 && t.pc == 0x104) = true := by
  decide

theorem test_step_mtcr32_psr :
    testRuns (testStart.setReg 1 0xFFFFFFFF) 32 0xC0016420 (fun t => t.psr.image == 0x80FF03C1) = true := by
  decide

theorem test_step_mtcr32_capr_of_four_regions :
    testRuns ({ testStart with cfg := { Config.standard with mpuRegions := 4 } }.setReg 1 0xFFFFFFFF) 32 0xC0016433
      (fun t => t.capr == 0x0F00FF0F) = true := by
  decide

theorem test_step_software_reset :
    testRuns { (writeData testStart .word 0 0x401).setReg 1 0xABCD0000 with psr := Psr.ofImage 0x80000141 } 32 0xC001643F
      (fun t => t.psr.image == 0x80000000 && t.pc == 0x400) = true := by
  decide

theorem test_step_psrset32_psrclr32 :
    testRuns { testStart with psr := Psr.ofImage 0x80000000 } 32 0xC3E07420 (fun t => t.psr.image == 0x80000140) = true ∧
    testRuns { testStart with psr := Psr.ofImage 0x80000141 } 32 0xC0807020 (fun t => t.psr.image == 0x80000101) = true := by
  decide

theorem test_step_rte32 :
    testRuns { testStart with epc := 0xFFFFFFFF, epsr := Psr.ofImage 0xFFFFFFFF, idlyCnt := 3 } 32 0xC0004020
      (fun t => t.psr.image == 0x80FF03C1 && t.pc == 0xFFFFFFFE && t.idlyCnt == 0) = true := by
  decide

theorem test_step_low_power :
    testRuns testStart 32 0xC0004C20 (fun t => t.runState == .wait && t.pc == 0x104) = true ∧
    testRuns { testStart with idlyCnt := 2 } 32 0xC0005020 (fun t => t.runState == .doze && t.idlyCnt == 0) = true ∧
    testRuns testStart 32 0xC0004820 (fun t => t.runState == .stop) = true := by
  decide

theorem test_step_privilege_violation :
    testRuns { (writeData testStart .word 0x14 0x4050) with psr := Psr.ofImage 0x00000100 } 32 0xC0004C20
      (fun t => t.psr.image == 0x80050000 && t.epsr.image == 0x00000100 && t.epc == 0x100 && t.pc == 0x4050) = true := by
  decide

theorem test_step_trap32_in_user_mode :
    testRuns { (writeData testStart .word 0x4C 0x4130) with psr := Psr.ofImage 0x00000141 } 32 0xC0002C20
      (fun t => t.psr.image == 0x80130001 && t.epsr.image == 0x00000141 && t.pc == 0x4130) = true := by
  decide

theorem test_step_bkpt16_with_exceptions_disabled :
    testRuns { (writeData testStart .word 0x20 0x4080) with psr := Psr.ofImage 0x80000001 } 16 0x0000
      (fun t => t.psr.image == 0x80080001 && t.epsr.image == 0x80000001 && t.pc == 0x4080) = true := by
  decide

theorem test_step_idly32 :
    testRuns (testStart.setC true) 32 0xC0801C20 (fun t => t.idlyCnt == 5 && t.psr.c == false) = true ∧
    testRuns { testStart.setC true with idlyCnt := 2 } 32 0xC0801C20 (fun t => t.idlyCnt == 1 && t.psr.c == true) = true := by
  decide

theorem test_step_sync32_in_user_mode :
    testRuns { testStart with psr := Psr.ofImage 0x00000100 } 32 0xC0000420 (fun t => t.pc == 0x104) = true := by
  decide

theorem test_step_nie16 :
    testRuns { testStart.setReg 14 0x20001000 with
        psr := Psr.ofImage 0x80220000, epc := 0x40E, epsr := Psr.ofImage 0x80000140 } 16 0x1460
      (fun t => t.reg 14 == 0x20000FF8 && t.psr.image == 0x80220140 && t.mem.readWord .little 0x20000FF8 == 0x80000140 &&
        t.mem.readWord .little 0x20000FFC == 0x40E) = true := by
  decide

theorem test_step_nir16 :
    testRuns { (writeData (writeData testStart .word 0x20000FF8 0xFFFFFFFF) .word 0x20000FFC 0x125).setReg 14 0x20000FF8 with
        idlyCnt := 1 } 16 0x1461
      (fun t => t.reg 14 == 0x20001000 && t.psr.image == 0x80FF03C1 && t.epc == 0x125 && t.pc == 0x124 && t.idlyCnt == 0) =
      true := by
  decide

theorem test_step_illegal_word :
    testRuns (writeData testStart .word 0x10 0x4040) 16 0x7C01
      (fun t => t.psr.image == 0x80040000 && t.epc == 0x100 && t.pc == 0x4040) = true := by
  decide

theorem test_step_interrupt_held_off :
    testRuns { testStart with psr := Psr.ofImage 0x80000140, idlyCnt := 3, inputs := [.irq 0x40] } 16 0x3101
      (fun t => t.reg 1 == 1 && t.idlyCnt == 2 && t.pc == 0x102) = true := by
  decide

theorem test_step_interrupt_taken :
    testRuns { (writeData testStart .word 0x100 0x4400) with
        psr := Psr.ofImage 0x800001C0, inputs := [.irq 0x40], pc := 0x1000 } 16 0x3101
      (fun t => t.psr.image == 0x80400080 && t.epsr.image == 0x800001C0 && t.epc == 0x1000 && t.pc == 0x4400) = true := by
  decide

/-- The map of 95_test_vectors.md section 6. -/
def testMpu : State :=
  { testStart with
    cfg := { Config.standard with mpuRegions := 4 }
    mp := 1
    capr := 0x00002D02
    pacr := ((testStart.pacr.set 0 (Pacr.ofImage 0x0000003F)).set 1 (Pacr.ofImage 0x20000017)).set 2
      (Pacr.ofImage 0x00000813) }

theorem test_mpu_decisions :
    mpuVerdict testMpu .write true 0x000007FC = .permit ∧ mpuVerdict testMpu .read false 0x000007FC = .deny ∧
    mpuVerdict testMpu .fetch false 0x00000BFC = .permit ∧ mpuVerdict testMpu .write false 0x00000800 = .deny ∧
    mpuVerdict testMpu .fetch true 0x20000FFC = .deny ∧ mpuVerdict testMpu .write false 0x20000000 = .permit ∧
    mpuVerdict testMpu .read true 0x20001000 = .permit := by
  decide

/-- `movi16 r3, 1` prefetched at the pc where memory now holds `movi16 r3, 5`, with a window of `n` halfwords. -/
def testWindowed (n : Fin 5) : State :=
  { (writeData testStart .half 0x100 0x3305) with cfg := { Config.standard with ifetchPrefetch := n }, window := [0x3301] }

/-- 20_memory.md R133: a prefetched halfword is executed, and with no window memory is. -/
theorem test_step_prefetched_halfword :
    (match step (testWindowed 1) with | .next t => t.reg 3 == 1 && t.window == [0] | _ => false) = true ∧
    (match step (testWindowed 0) with | .next t => t.reg 3 == 5 && t.window == [] | _ => false) = true := by
  decide

/-- A store over the next halfword leaves the old one in the window; a taken branch leaves none, one not taken leaves all. -/
theorem test_step_window_after_store_and_branch :
    (let s : State := { ((testStore 0x102).setReg 1 0x3305) with cfg := { Config.standard with ifetchPrefetch := 2 } }
     testRuns s 16 0xAA20 (fun t => t.window == [0, 0] && t.mem.readHalf .little 0x102 == 0x3305) = true ∧
     testRuns s 16 0x0401 (fun t => t.window == []) = true ∧ testRuns s 16 0x0801 (fun t => t.window == [0, 0]) = true) := by
  decide

/-- MTCR32 sets CHR.IAE; the step after it is refused; a reset is not. -/
theorem test_step_accelerated_interrupts_refused :
    testRuns (testStart.setReg 3 0x10) 32 0xC003643F (fun t => t.iae &&
      (match step t with | .refused .acceleratedInterrupt => true | _ => false) &&
      (match step { t with inputs := [.reset] } with | .next u => !u.iae | _ => false)) = true := by
  decide

/-! Witnesses: states and operands that meet all hypotheses of an obligation together, one part for each clause -/

/-- The MPU off, no bus error, no device: every access is permitted. -/
theorem testStart_permits (k : AccessKind) (u : Bool) (a : Word) (n : Nat) : accessVerdict testStart k u a n = .permit :=
  accessVerdict_flat (.inr rfl) rfl rfl

theorem testStart_vectors (v : BitVec 8) : VectorReadable testStart v := testStart_permits _ _ _ _

theorem testStart_words (k : AccessKind) (a : Word) (n : Nat) : WordsPermitted testStart k a n :=
  fun _ _ => testStart_permits _ _ _ _

/-- User mode. -/
def testUser : State := { testStart with psr := Psr.ofImage 0x00000100 }

/-- Bus errors at the word of vector 4, and, second, at that of vector 8 too. -/
def testBusVector4 : State := { testStart with cfg := { Config.standard with busErrors := [⟨.fetch, [2, 4], ⟨0x10, 0x13⟩⟩] } }
def testBusVector48 : State :=
  { testStart with cfg := { Config.standard with busErrors := [⟨.fetch, [2, 4], ⟨0x10, 0x13⟩⟩, ⟨.fetch, [2, 4], ⟨0x20, 0x23⟩⟩] } }

/-- A bus error on data accesses at 0x20000FFC to 0x20000FFF. -/
def testBusData : State :=
  { testStart with cfg := { Config.standard with busErrors :=
      [⟨.read, [1, 2, 4], ⟨0x20000FFC, 0x20000FFF⟩⟩, ⟨.write, [1, 2, 4], ⟨0x20000FFC, 0x20000FFF⟩⟩] } }

theorem test_witness_EncodedInstructionDecodes :
    (Instr.lrw16 0 0 0 1).wellFormed Config.standard = true ∧ (Instr.ld32w 15 15 0xFFF).wellFormed Config.standard = true ∧
      Instr.ipop16.wellFormed Config.standard = true := by
  decide

theorem test_witness_DecodedWordIsItsEncoding :
    Config.standard.jsr16Alt = false ∧ decodeWord Config.standard (.half 0xBFFF) = .ok (.st16wSp 7 7 31) ∧
      decodeWord Config.standard (.full 0xEA8FFFFF) = .ok (.lrw32 15 0xFFFF) := by
  decide

theorem test_witness_NoWordMatchesTwoRows : (0x0001 : Half) ≠ 0 ∧ (0xFFFF : Half) ≠ 0 := by decide

/-- Register fields 16 and 31, in each of the four formats. -/
theorem test_witness_RegisterFieldAbove15IsIllegal :
    ([0xDA000000#32, 0xDFE00000, 0xD8100000] : List Word).all (fun w =>
      decide ((w.extractLsb' 26 6 = 0b110110#6 ∨ w.extractLsb' 26 6 = 0b110111#6) ∧
        (w.getLsbD 25 = true ∨ w.getLsbD 20 = true))) = true ∧
    (0xEA900000#32).extractLsb' 21 11 = 0b11101010100#11 ∧ (0xEA900000#32).getLsbD 20 = true ∧
    (0xC0006030#32).extractLsb' 26 6 = 0b110000#6 ∧ (0xC0006030#32).extractLsb' 5 11 = 0b01100000001#11 ∧
    (0xC0006030#32).getLsbD 4 = true ∧
    (0xC01F6420#32).extractLsb' 26 6 = 0b110000#6 ∧ (0xC01F6420#32).extractLsb' 5 11 = 0b01100100001#11 ∧
    (0xC01F6420#32).getLsbD 20 = true := by
  decide

/-- A 16-bit instruction, a 32-bit one across the end of the address space, and a 16-bit one out of the window. -/
theorem test_witness_StepRunsDecodedInstruction :
    (let s : State := testStart.withFetchWord 16 0x3101
     s.cfg.supported = true ∧ s.sample = .idle ∧ s.runState = .running ∧ s.iae = false ∧
      FetchGives s 0 s.pc 0x3101 ∧ FetchGives s 1 (s.pc + 2) 0 ∧
      accessVerdict s .fetch s.psr.s s.pc 2 = .permit ∧ isLong 0x3101 = false ∧
      decode s.cfg (halfBytes s.cfg.endian 0x3101 ++ halfBytes s.cfg.endian 0) = .ok (.movi16 1 1, [0, 0])) ∧
    (let s : State := State.withFetchWord { testStart with pc := 0xFFFFFFFE } 32 0xC0004C20
     s.cfg.supported = true ∧ s.sample = .idle ∧ s.runState = .running ∧ s.iae = false ∧
      FetchGives s 0 s.pc 0xC000 ∧ FetchGives s 1 (s.pc + 2) 0x4C20 ∧
      accessVerdict s .fetch s.psr.s s.pc 2 = .permit ∧ isLong 0xC000 = true ∧
      accessVerdict s .fetch s.psr.s (s.pc + 2) 2 = .permit ∧
      decode s.cfg (halfBytes s.cfg.endian 0xC000 ++ halfBytes s.cfg.endian 0x4C20) = .ok (.wait32, [])) ∧
    (FetchGives (testWindowed 1) 0 (testWindowed 1).pc 0x3301 ∧ FetchGives (testWindowed 0) 0 (testWindowed 0).pc 0x3305) := by
  unfold FetchGives
  decide

theorem test_witness_UndecodableWordIsIllegalInstruction :
    let s : State := testStart.withFetchWord 16 0x7C01
    s.cfg.supported = true ∧ s.sample = .idle ∧ s.runState = .running ∧ s.iae = false ∧
      FetchGives s 0 s.pc 0x7C01 ∧ FetchGives s 1 (s.pc + 2) 0 ∧
      accessVerdict s .fetch s.psr.s s.pc 2 = .permit ∧ isLong 0x7C01 = false ∧
      decode s.cfg (halfBytes s.cfg.endian 0x7C01 ++ halfBytes s.cfg.endian 0) = .error (.unimplemented16 0x7C01) ∧
      VectorReadable s (entryVector s 4) := by
  unfold FetchGives VectorReadable
  decide

/-- A bus error on the first halfword, and on the second one alone. -/
theorem test_witness_DeniedFetchIsAccessError :
    (let s : State := { testBusVector4 with pc := 0x12 }
     s.cfg.supported = true ∧ s.sample = .idle ∧ s.runState = .running ∧ s.iae = false ∧ FetchGives s 0 s.pc 0 ∧
      accessVerdict s .fetch s.psr.s s.pc 2 = .deny ∧ VectorReadable s (entryVector s 2)) ∧
    (let s : State := State.withFetchWord { testBusVector4 with pc := 0xE } 32 0xC0004C20
     s.cfg.supported = true ∧ s.sample = .idle ∧ s.runState = .running ∧ s.iae = false ∧ FetchGives s 0 s.pc 0xC000 ∧
      accessVerdict s .fetch s.psr.s s.pc 2 = .permit ∧ isLong 0xC000 = true ∧
      accessVerdict s .fetch s.psr.s (s.pc + 2) 2 = .deny ∧ VectorReadable s (entryVector s 2)) := by
  unfold FetchGives VectorReadable
  decide

/-- The lowest and the highest vector, in a running core and in a stopped one. -/
theorem test_witness_EnabledInterruptIsTaken :
    ([(RunState.running, (32 : BitVec 8)), (.stop, 255)] : List _).all (fun p =>
      let s : State := { testStart with psr := Psr.ofImage 0x80000140, inputs := [.irq p.2], runState := p.1 }
      decide (s.cfg.supported = true ∧ s.inputs = [.irq p.2] ∧ 32 ≤ p.2.toNat ∧ s.runState ≠ .stuck ∧ s.iae = false ∧
        s.psr.ie = true ∧ s.psr.ee = true ∧ s.idlyCnt = 0 ∧
        accessVerdict s .fetch true (vectorAddr p.2) 4 = .permit)) = true := by
  decide

/-- One state for each of the three masks. -/
theorem test_witness_MaskedInterruptIsIgnored :
    ([(0x80000100, 0), (0x80000040, 0), (0x80000140, 1)] : List (Word × Nat)).all (fun p =>
      let s : State := { testStart with psr := Psr.ofImage p.1, inputs := [.irq 32], idlyCnt := p.2 }
      decide (s.inputs = [.irq 32] ∧ 32 ≤ (32 : BitVec 8).toNat ∧ s.runState = .running ∧
        (s.psr.ie = false ∨ s.psr.ee = false ∨ s.idlyCnt ≠ 0))) = true := by
  decide

theorem test_witness_LowPowerStateWaitsForARequest :
    ([.wait, .doze, .stop] : List RunState).all (fun r =>
      let s : State := { testStart with runState := r }
      let t : State := { s with inputs := [.irq 0x20] }
      decide ((s.runState = .wait ∨ s.runState = .doze ∨ s.runState = .stop) ∧ s.cfg.supported = true ∧ s.iae = false ∧
        s.sample = .idle ∧ t.inputs = [.irq 0x20])) = true := by
  decide

/-- Big-endian without BE_V2; vector 31; IAE = 1 with no event, with vector 32, and in a stopped core; MP = 10 and 11. -/
theorem test_witness_UndefinedSettingsAreRefused :
    (let s : State := { testStart with cfg := { Config.standard with endian := .big } }
     s.cfg.endian = .big ∧ s.cfg.beV2 = false) ∧
    (let s : State := { testStart with inputs := [.irq 31] }
     s.cfg.supported = true ∧ s.inputs = [.irq 31] ∧ s.runState ≠ .stuck ∧ (31 : BitVec 8).toNat < 32) ∧
    (let s : State := { testStart with iae := true }
     s.cfg.supported = true ∧ s.runState ≠ .stuck ∧ s.iae = true ∧ s.sample = .idle ∧ s.sample ≠ .reset) ∧
    (let s : State := { testStart with inputs := [.irq 32], iae := true, runState := .stop }
     s.cfg.supported = true ∧ s.runState ≠ .stuck ∧ s.iae = true ∧ s.sample = .irq 32 ∧ s.sample ≠ .reset ∧
      32 ≤ (32 : BitVec 8).toNat) ∧
    (let s : State := { testStart with mp := 2 }
     s.cfg.mpuRegions ≠ 0 ∧ s.mp.getLsbD 1 = true) ∧
    (let s : State := { testStart with mp := 3 }
     s.cfg.mpuRegions ≠ 0 ∧ s.mp.getLsbD 1 = true) := by
  decide

theorem test_witness_reservedRegionSize :
    let s : State := { testMpu with pacr := testMpu.pacr.set 2 { base := 0, size := 8, e := true } }
    s.mp = 1 ∧ (2 : Fin 8).val < s.cfg.mpuRegions.val ∧ s.pacr[(2 : Fin 8).val].e = true ∧
      s.pacr[(2 : Fin 8).val].size.toNat ≤ 8 ∧
      ∀ k : Fin 8, (2 : Fin 8).val < k.val → k.val < s.cfg.mpuRegions.val → RegionMisses s.pacr[k.val] 0x800 := by
  unfold RegionMisses
  decide

theorem test_witness_ResetIsTakenInAnyRunState :
    let s : State := { testStart with inputs := [.reset], runState := .stuck }
    s.cfg.supported = true ∧ s.inputs = [.reset] ∧ busError s.cfg .fetch 0 4 = false ∧ inTcip s.cfg 0 4 = false := by
  decide

theorem test_witness_StepKeepsInvariant :
    let s : State := testStart.withFetchWord 16 0x3101
    s.Inv ∧ ∃ t, step s = .next t := by
  refine ⟨?_, _, rfl⟩
  constructor <;> decide

/-- An instruction that runs in user mode, and one that traps there. -/
theorem test_witness_UserModeReachesNoControlRegister :
    testUser.psr.s = false ∧ (∃ t, exec (.movi16 1 1) testUser = .next t) ∧ (∃ t, exec .rte32 testUser = .next t) :=
  ⟨rfl, ⟨_, rfl⟩, ⟨_, rfl⟩⟩

/-- With EE = 1 and with EE = 0, an exception and an interrupt. -/
theorem test_witness_ExceptionEntrySavesAndVectors :
    ([(true, false, 1), (true, true, 255), (false, false, 19), (false, true, 32)] : List (Bool × Bool × BitVec 8)).all
      (fun p =>
        let s : State := { testStart with psr := { testStart.psr with ee := p.1 } }
        decide (accessVerdict s .fetch true
          (vectorAddr (if s.psr.ee = false ∧ p.2.1 = false then 8 else p.2.2)) 4 = .permit)) = true := by
  decide

theorem test_witness_ExceptionEntryLeavesTheRest :
    (∃ t, exceptionEntry 4 false 0x100 testStart = .next t) ∧
      (∃ t, exceptionEntry 4 false 0x100 { testStart with idlyCnt := 2 } = .next t) ∧
      (∃ t, exceptionEntry 4 false 0x100 testBusVector48 = .next t) :=
  ⟨⟨_, rfl⟩, ⟨_, rfl⟩, ⟨_, rfl⟩⟩

theorem test_witness_DeniedVectorFetchIsUnrecoverable :
    accessVerdict testBusVector4 .fetch true (vectorAddr (effectiveVector 4 false testBusVector4)) 4 = .deny ∧
    VectorReadable testBusVector4 8 ∧
    accessVerdict testBusVector48 .fetch true (vectorAddr (effectiveVector 4 false testBusVector48)) 4 = .deny ∧
    accessVerdict testBusVector48 .fetch true (vectorAddr 8) 4 = .deny ∧
    (let s : State := { testStart with runState := .stuck }
     s.cfg.supported = true ∧ s.runState = .stuck ∧ s.sample ≠ .reset) := by
  unfold VectorReadable
  decide

theorem test_witness_UserModePrivilegedInstructionTraps :
    isPrivileged (.mfcr32 15 31 31) = true ∧ isPrivileged .nir16 = true ∧ testUser.psr.s = false ∧
      VectorReadable testUser (entryVector testUser 5) :=
  ⟨rfl, rfl, rfl, testStart_vectors _⟩

theorem test_witness_TrapAndBreakpointEnterTheirVectors :
    VectorReadable testStart (entryVector testStart (BitVec.ofNat 8 (16 + (3 : BitVec 2).toNat))) ∧
      VectorReadable testUser (entryVector testUser 7) ∧
      VectorReadable { testStart with psr := Psr.ofImage 0x80000000 } 8 :=
  ⟨testStart_vectors _, testStart_vectors _, testStart_vectors _⟩

theorem test_witness_MemoryByteReadsBack :
    Memory.wf ⟨[]⟩ = true ∧ (testBytes testStart 0).mem.wf = true ∧ (testBytes testBig 0).mem.wf = true ∧
      testStart.cfg.endian = .little ∧ testBig.cfg.endian = .big := by
  decide

theorem test_witness_RegistersReadAndWrite :
    ((8 : Reg).toNat ≤ 8 ∨ 13 ≤ (8 : Reg).toNat) ∧ ((13 : Reg).toNat ≤ 8 ∨ 13 ≤ (13 : Reg).toNat) ∧
      (9 ≤ (9 : Reg).toNat ∧ (9 : Reg).toNat ≤ 12) ∧ (9 ≤ (12 : Reg).toNat ∧ (12 : Reg).toNat ≤ 12) ∧
      (8 : Reg) ≠ 9 := by
  decide

theorem test_witness_MaskedMisalignmentAccessesTheAlignedDatum : (Psr.ofImage 0x80000300).mm = true := by decide

/-- The first and last address of region 2, allowed and not; regions 1 and 0 under higher ones. -/
theorem test_witness_HighestMatchingRegionDecides :
    testMpu.mp = 1 ∧ (2 : Fin 8).val < testMpu.cfg.mpuRegions.val ∧ RegionMatches testMpu.pacr[(2 : Fin 8).val] 0x800 ∧
    RegionMatches testMpu.pacr[(2 : Fin 8).val] 0xBFF ∧ RegionMatches testMpu.pacr[(0 : Fin 8).val] 0xC00 ∧
    (∀ k : Fin 8, (2 : Fin 8).val < k.val → k.val < testMpu.cfg.mpuRegions.val → RegionMisses testMpu.pacr[k.val] 0x800) ∧
    (∀ k : Fin 8, (0 : Fin 8).val < k.val → k.val < testMpu.cfg.mpuRegions.val → RegionMisses testMpu.pacr[k.val] 0xC00) ∧
    PermissionAllows false .fetch (testMpu.capr.extractLsb' (8 + 2 * (2 : Fin 8).val) 2) (testMpu.capr.getLsbD 2) ∧
    ¬ PermissionAllows false .write (testMpu.capr.extractLsb' (8 + 2 * (2 : Fin 8).val) 2) (testMpu.capr.getLsbD 2) := by
  unfold RegionMatches RegionMisses PermissionAllows
  decide

theorem test_witness_NoRegionDeniesAndNoMpuPermits :
    (let s : State := { testStart with mp := 1 }
     s.mp = 1 ∧ s.cfg.mpuRegions ≠ 0 ∧
      ∀ k : Fin 8, k.val < s.cfg.mpuRegions.val → RegionMisses s.pacr[k.val] 0xFFFFFFFF) ∧
    (testStart.cfg.mpuRegions = 0 ∨ testStart.mp = 0) ∧
    (let s : State := { testStart with cfg := { Config.standard with mpuRegions := 0 }, mp := 1 }
     s.cfg.mpuRegions = 0 ∨ s.mp = 0) := by
  unfold RegionMisses
  decide

/-- A device window at 0xE000E000 to 0xE000EFFF, the word at 0xE000E010 of which answers halfword reads with an error. -/
def testWindow : State :=
  { testStart with cfg := { Config.standard with
      busErrors := [⟨.read, [2], ⟨0xE000E010, 0xE000E013⟩⟩], tcip := [⟨0xE000E000, 0xE000EFFF⟩] } }

theorem test_busError_depends_on_size :
    busError testWindow.cfg .read 0xE000E012 2 = true ∧ busError testWindow.cfg .read 0xE000E010 4 = false ∧
      busError testWindow.cfg .read 0xE000E012 1 = false ∧ busError testWindow.cfg .write 0xE000E012 2 = false := by
  decide

/-- The verdict of an access: each verdict of the MPU, an error of the bus, the edges of the window, none of these. -/
theorem test_witness_accessVerdict :
    mpuVerdict { testStart with mp := 1 } .read true 0 = .deny ∧
    mpuVerdict { testStart with mp := 2 } .read true 0 = .refuse .reservedMp ∧
    mpuVerdict testWindow .read false 0xE000E012 = .permit ∧
    BusAnswersError testWindow.cfg .read 0xE000E012 2 ∧
    InDeviceWindow testWindow.cfg 0xE000EFFF 1 ∧ ¬ BusAnswersError testWindow.cfg .read 0xE000EFFF 1 ∧
    InDeviceWindow testWindow.cfg 0xE000E000 2 ∧ ¬ BusAnswersError testWindow.cfg .fetch 0xE000E000 2 ∧
    ¬ InDeviceWindow testWindow.cfg 0xE000DFFC 4 ∧ ¬ InDeviceWindow testWindow.cfg 0xE000F000 4 ∧
    ¬ BusAnswersError testWindow.cfg .read 0xE000DFFC 4 := by
  unfold BusAnswersError InDeviceWindow Touches
  decide

theorem test_witness_DisabledRegionHasNoEffect :
    testMpu.pacr[(3 : Fin 8).val].e = false ∧ ({ base := 0, size := 31, e := false } : Pacr).e = false := by
  decide

/-- The premises of LoadsFrom and StoresTo at the edges: an aligned address, the top of memory, a misaligned one with MM = 1;
and those of LRW. -/
theorem test_witness_LoadResults :
    ([(Size.byte, 0xFFFFFFFF), (.half, 0xFFFFFFFE), (.word, 0xFFFFFFFC), (.word, 0)] : List (Size × Word)).all (fun p =>
      decide (misaligned p.1 p.2 = false ∧
        accessVerdict testStart .read testStart.psr.s (alignDown p.1 p.2) p.1.bytes = .permit)) = true ∧
    (let s : State := { testStart with psr := Psr.ofImage 0x80000300 }
     misaligned .word 0x20000003 = true ∧ s.psr.mm = true ∧
      accessVerdict s .read s.psr.s (alignDown .word 0x20000003) Size.word.bytes = .permit) ∧
    accessVerdict testStart .read testStart.psr.s (literalAddr testStart.pc (lrwOffset 0 3 31)) 4 = .permit ∧
    accessVerdict testStart .read testStart.psr.s (literalAddr testStart.pc (0xFFFF : BitVec 16)) 4 = .permit := by
  decide

theorem test_witness_StoreResults :
    testStart.mem.wf = true ∧
    ([(Size.byte, 0xFFFFFFFF), (.half, 0xFFFFFFFE), (.word, 0xFFFFFFFC), (.word, 0)] : List (Size × Word)).all (fun p =>
      decide (misaligned p.1 p.2 = false ∧
        accessVerdict testStart .write testStart.psr.s (alignDown p.1 p.2) p.1.bytes = .permit)) = true ∧
    (let s : State := { testStart with psr := Psr.ofImage 0x80000300 }
     misaligned .half 0x20000001 = true ∧ s.psr.mm = true ∧
      accessVerdict s .write s.psr.s (alignDown .half 0x20000001) Size.half.bytes = .permit) := by
  decide

/-- A misaligned store; a load whose aligned address has a bus error; the same through MM = 1. -/
theorem test_witness_FaultingAccessTraps :
    (let s : State := testStart.setReg 2 0x20000003
     dataAccess (.st16w 1 2 0) s = some (.write, .word, 0x20000003) ∧ misaligned .word 0x20000003 = true ∧
      s.psr.mm = false ∧ VectorReadable s (entryVector s 1)) ∧
    (let s : State := testBusData.setReg 2 0x20000FFC
     dataAccess (.ld32w 1 2 0) s = some (.read, .word, 0x20000FFC) ∧ misaligned .word 0x20000FFC = false ∧
      accessVerdict s .read s.psr.s (alignDown .word 0x20000FFC) Size.word.bytes = .deny ∧
      VectorReadable s (entryVector s 2)) ∧
    (let s : State := { testBusData.setReg 2 0x20000FFF with psr := Psr.ofImage 0x80000300 }
     dataAccess (.ld16h 1 2 0) s = some (.read, .half, 0x20000FFF) ∧ s.psr.mm = true ∧
      accessVerdict s .read s.psr.s (alignDown .half 0x20000FFF) Size.half.bytes = .deny ∧
      VectorReadable s (entryVector s 2)) := by
  unfold VectorReadable
  decide

/-- The first read of each multi-access load denied, and the last one. -/
theorem test_witness_FaultingAccessTraps_stack :
    ([(.pop16 1 7, 0), (.pop16 1 7, 7), (.pop16List8 1, 8), (.ipop16, 5), (.nir16, 0), (.nir16, 1)] :
        List (Instr × Nat)).all (fun p =>
      let s : State := testBusData.setReg 14 (0x20000FFC - BitVec.ofNat 32 (4 * p.2))
      (stackLoads p.1).any (fun n => decide (p.2 < n)) && decide (s.psr.s = true ∧ (s.reg 14).toNat % 4 = 0 ∧
        (∀ k < p.2, accessVerdict s .read s.psr.s (s.reg 14 + BitVec.ofNat 32 (4 * k)) 4 = .permit) ∧
        accessVerdict s .read s.psr.s (s.reg 14 + BitVec.ofNat 32 (4 * p.2)) 4 = .deny ∧
        accessVerdict s .fetch true (vectorAddr (entryVector s 2)) 4 = .permit)) = true := by
  decide

/-- The empty list, the longest short list with r15, and r4 to r11 with r15, below SP = 0, that is at the top of memory. -/
theorem test_witness_PushResults :
    (∃ list1 : BitVec 3, Instr.push16 0 0 = .push16 0 list1 ∧ 0 = list1.toNat) ∧
    (∃ list1 : BitVec 3, Instr.push16 1 7 = .push16 1 list1 ∧ 7 = list1.toNat) ∧
    (Instr.push16List8 1 = .push16List8 1 ∧ 8 = 8) ∧
    testStart.mem.wf = true ∧ (testStart.reg 14).toNat % 4 = 0 ∧
    ∀ n, WordsPermitted testStart .write (testStart.reg 14 - BitVec.ofNat 32 (4 * n)) n :=
  ⟨⟨0, rfl, rfl⟩, ⟨7, rfl, rfl⟩, ⟨rfl, rfl⟩, rfl, rfl, fun _ => testStart_words _ _ _⟩

theorem test_witness_PopResults :
    (∃ list1 : BitVec 3, Instr.pop16 0 0 = .pop16 0 list1 ∧ 0 = list1.toNat) ∧
    (∃ list1 : BitVec 3, Instr.pop16 1 7 = .pop16 1 list1 ∧ 7 = list1.toNat) ∧
    (Instr.pop16List8 1 = .pop16List8 1 ∧ 8 = 8) ∧
    (testStart.reg 14).toNat % 4 = 0 ∧ ∀ n, WordsPermitted testStart .read (testStart.reg 14) n :=
  ⟨⟨0, rfl, rfl⟩, ⟨7, rfl, rfl⟩, ⟨rfl, rfl⟩, rfl, fun _ => testStart_words _ _ _⟩

theorem test_witness_InterruptPushAndPopResults :
    testStart.mem.wf = true ∧ testStart.psr.s = true ∧ (testStart.reg 14).toNat % 4 = 0 ∧
    WordsPermitted testStart .write (testStart.reg 14 - 24) 6 ∧ WordsPermitted testStart .read (testStart.reg 14) 6 ∧
    WordsPermitted testStart .write (testStart.reg 14 - 8) 2 ∧ WordsPermitted testStart .read (testStart.reg 14) 2 :=
  ⟨rfl, rfl, rfl, testStart_words _ _ _, testStart_words _ _ _, testStart_words _ _ _, testStart_words _ _ _⟩

/-- Of `n` words below SP the store number `j` is denied: the last and the first of a PUSH16, the last of r4 to r11 and r15,
the last and the first of an IPUSH16. -/
theorem test_witness_PushFaultKeepsEarlierStores :
    (∃ list1 : BitVec 3, Instr.push16 1 2 = .push16 1 list1 ∧ 2 = list1.toNat) ∧
    (Instr.push16List8 1 = .push16List8 1 ∧ 8 = 8) ∧
    ([(3, 2), (3, 0), (9, 8), (6, 5), (6, 0)] : List (Nat × Nat)).all (fun p =>
      let s : State := testBusData.setReg 14 (0x20000FFC + BitVec.ofNat 32 (4 * (p.1 - p.2)))
      decide (s.mem.wf = true ∧ (s.reg 14).toNat % 4 = 0 ∧ p.2 < p.1 ∧
        (∀ k < p.2, accessVerdict s .write s.psr.s (s.reg 14 - BitVec.ofNat 32 (4 * p.1) + BitVec.ofNat 32 (4 * k)) 4 =
          .permit) ∧
        accessVerdict s .write s.psr.s (s.reg 14 - BitVec.ofNat 32 (4 * p.1) + BitVec.ofNat 32 (4 * p.2)) 4 = .deny ∧
        accessVerdict s .fetch true (vectorAddr (entryVector s 2)) 4 = .permit)) = true :=
  ⟨⟨2, rfl, rfl⟩, ⟨rfl, rfl⟩, by decide⟩

/-- The store of EPC denied, and that of EPSR after it. -/
theorem test_witness_PushFaultKeepsEarlierStores_nie16 :
    (let s : State := testBusData.setReg 14 0x20001000
     s.psr.s = true ∧ s.mem.wf = true ∧ (s.reg 14).toNat % 4 = 0 ∧ VectorReadable s (entryVector s 2) ∧
      accessVerdict s .write s.psr.s (s.reg 14 - 4) 4 = .deny) ∧
    (let s : State := testBusData.setReg 14 0x20001004
     s.psr.s = true ∧ s.mem.wf = true ∧ (s.reg 14).toNat % 4 = 0 ∧ VectorReadable s (entryVector s 2) ∧
      accessVerdict s .write s.psr.s (s.reg 14 - 4) 4 = .permit ∧
      accessVerdict s .write s.psr.s (s.reg 14 - 8) 4 = .deny) := by
  unfold VectorReadable
  decide

theorem test_witness_MisalignedStackPointerTraps :
    isMultiAccess (.pop16 1 7) = true ∧ isMultiAccess .nie16 = true ∧ isPrivileged .nie16 = true ∧
      (testStart.setReg 14 0x20001002).psr.s = true ∧ ((testStart.setReg 14 0x20001002).reg 14).toNat % 4 ≠ 0 ∧
      VectorReadable (testStart.setReg 14 0x20001002) (entryVector (testStart.setReg 14 0x20001002) 1) :=
  ⟨rfl, rfl, rfl, rfl, by decide, testStart_vectors _⟩

theorem test_witness_ReturnFromExceptionResults : testStart.psr.s = true := rfl

/-- An exception with an open IDLY sequence, and an interrupt. -/
theorem test_witness_ReturnUndoesExceptionEntry :
    (let s : State := { testStart with idlyCnt := 1 }
     s.pc.getLsbD 0 = false ∧ ∃ t, TookException 4 false s.pc s t) ∧
    (testStart.pc.getLsbD 0 = false ∧ ∃ t, TookException 255 true testStart.pc testStart t) := by
  refine ⟨⟨rfl, enterHandler 0 (saveContext 4 false 0x100 { testStart with idlyCnt := 1 }), ?_⟩,
    ⟨rfl, enterHandler 0 (saveContext 255 true 0x100 testStart), ?_⟩⟩ <;>
    constructor <;> first | rfl | (intro _; rfl)

/-- Regions 0 to 8 and the region number at the edge; each CR number and selector clause; the key and its neighbour. -/
theorem test_witness_WriteControlRegisterResults :
    testStart.psr.s = true ∧ testStart.cfg.mpuRegions ≠ 0 ∧ (testStart.reg 1).getLsbD 1 = false ∧
    ((testStart.setReg 1 2).reg 1).getLsbD 1 = true ∧
    (let s : State := { testMpu with rid := 3 }
     s.rid.toNat = (3 : Fin 8).val ∧ (3 : Fin 8).val < s.cfg.mpuRegions.val) ∧
    (let s : State := { testMpu with rid := 4 }
     s.cfg.mpuRegions.val ≤ s.rid.toNat) ∧
    (testStart.cfg.hasNestInt = true ∧ (testStart.reg 1).extractLsb' 16 16 ≠ testStart.cfg.srstMagic) ∧
    (let s : State := { testStart with cfg := { Config.standard with mpuRegions := 0, hasNestInt := false } }
     s.psr.s = true ∧ s.cfg.mpuRegions = 0 ∧ (18 : BitVec 5).toNat ∈ [18, 19, 20, 21] ∧ s.cfg.hasNestInt = false ∧
      (s.reg 1).extractLsb' 16 16 ≠ s.cfg.srstMagic) ∧
    ((31 : BitVec 5) ≠ 0 ∧ (1 : BitVec 5).toNat ∉ [0, 2, 4, 11, 18, 19, 20, 21, 31]) := by
  decide

theorem test_witness_ControlRegisterWriteReadsBack :
    (∃ t, writeCr 0 0 0xFFFFFFFF testStart = .ok t) ∧ (∃ t, writeCr 2 0 0xFFFFFFFF testStart = .ok t) ∧
    (∃ t, writeCr 4 0 0xFFFFFFFF testStart = .ok t) ∧
    (testStart.cfg.mpuRegions = 8 ∧ ∃ t, writeCr 19 0 0xFFFFFFFF testStart = .ok t) ∧
    (testMpu.cfg.mpuRegions = 4 ∧ ∃ t, writeCr 19 0 0xFFFFFFFF testMpu = .ok t) ∧
    (let s : State := { testMpu with rid := 3 }
     s.rid.toNat < s.cfg.mpuRegions.val ∧ ∃ t, writeCr 20 0 0xFFFFFFFF s = .ok t) ∧
    (testMpu.cfg.mpuRegions ≠ 0 ∧ ∃ t, writeCr 21 0 0xFFFFFFFF testMpu = .ok t) ∧
    (∃ t, writeCr 18 0 0xFFFFFFFD testStart = .ok t) ∧
    (testStart.cfg.hasNestInt = true ∧ ∃ t, writeCr 31 0 0xFFFFFFFF testStart = .ok t) ∧
    (let s : State := { testStart with cfg := { Config.standard with gcrGsrPresent := true } }
     s.cfg.gcrGsrPresent = true ∧ ∃ t, writeCr 11 0 0xFFFFFFFF s = .ok t) :=
  ⟨⟨_, rfl⟩, ⟨_, rfl⟩, ⟨_, rfl⟩, ⟨rfl, _, rfl⟩, ⟨rfl, _, rfl⟩, ⟨by decide, _, rfl⟩, ⟨by decide, _, rfl⟩, ⟨_, rfl⟩, ⟨rfl, _, rfl⟩,
    ⟨rfl, _, rfl⟩⟩

theorem test_witness_SoftwareResetKeyResets :
    (let s : State := testStart.setReg 1 0xABCDFFFF
     s.psr.s = true ∧ (s.reg 1).toNat / 2 ^ 16 = s.cfg.srstMagic.toNat ∧ s.psr.ee = true ∧
      busError s.cfg .fetch 0 4 = false ∧ inTcip s.cfg 0 4 = false) ∧
    (let s : State := { testStart.setReg 1 0xABCD0000 with psr := Psr.ofImage 0x80000000 }
     s.psr.s = true ∧ (s.reg 1).toNat / 2 ^ 16 = s.cfg.srstMagic.toNat ∧ s.psr.ee = false ∧ VectorReadable s 8) := by
  unfold VectorReadable
  decide

theorem test_witness_InterruptDelayResults : testStart.idlyCnt = 0 ∧ ({ testStart with idlyCnt := 1 } : State).idlyCnt ≠ 0 := by
  decide

theorem test_witness_StepKeepsConfiguration : ∃ t, step (testStart.withFetchWord 32 0xC0004C20) = .next t := ⟨_, rfl⟩

theorem test_witness_WordStoreReadsBackAtEveryWidth :
    testStart.mem.wf = true ∧ testStart.cfg.endian = .little ∧ (testBytes testBig 0).mem.wf = true ∧
      testBig.cfg.endian = .big := by
  decide

theorem test_witness_NestEnterResults :
    testStart.psr.s = true ∧ testStart.mem.wf = true ∧ (testStart.reg 14).toNat % 4 = 0 ∧
      WordsPermitted testStart .write (testStart.reg 14 - 8) 2 :=
  ⟨rfl, rfl, rfl, testStart_words _ _ _⟩

theorem test_witness_NestReturnResults :
    testStart.psr.s = true ∧ (testStart.reg 14).toNat % 4 = 0 ∧ WordsPermitted testStart .read (testStart.reg 14) 2 :=
  ⟨rfl, rfl, testStart_words _ _ _⟩

theorem test_witness_ReadControlRegisterResults : testStart.psr.s = true := rfl

/-- The region number below the number of regions and equal to it; no region; a selector and numbers not listed. -/
theorem test_witness_ControlRegisterViews :
    testMpu.cfg.mpuRegions ≠ 0 ∧
    (let s : State := { testMpu with rid := 3 }
     s.rid.toNat = (3 : Fin 8).val ∧ (3 : Fin 8).val < s.cfg.mpuRegions.val) ∧
    (let s : State := { testMpu with rid := 4 }
     s.cfg.mpuRegions.val ≤ s.rid.toNat) ∧
    ((1 : BitVec 5) ≠ 0 ∧ (1 : BitVec 5).toNat ∉ [0, 2, 4, 11, 13, 18, 19, 20, 21, 31]) ∧
    (let s : State := { testStart with cfg := { Config.standard with mpuRegions := 0 } }
     s.cfg.mpuRegions = 0) := by
  decide

theorem test_witness_PsrSetAndClearResults : testStart.psr.s = true := rfl

theorem test_witness_LowPowerEntryResults :
    testStart.psr.s = true ∧ (Instr.stop32 = Instr.stop32 ∧ RunState.stop = RunState.stop) := ⟨rfl, rfl, rfl⟩
end

/-! PROOFS. The general registers (10_state.md R30). -/

namespace Sys2Proof.Machine

/-- The implemented registers are r0 to r8 and r13 to r15 (10_state.md R30, R31). -/
theorem implementedReg_eq_true_iff (n : Reg) : implementedReg n = true ↔ n.toNat ≤ 8 ∨ 13 ≤ n.toNat := by
  simp [implementedReg]

/-- The others are r9 to r12. -/
theorem implementedReg_eq_false_iff (n : Reg) : implementedReg n = false ↔ 9 ≤ n.toNat ∧ n.toNat ≤ 12 := by
  rw [← Bool.not_eq_true, implementedReg_eq_true_iff]
  omega

/-- Settles O24: the read-after-write laws of the register file, for an implemented number, for one of r9 to r12, and for
another number than the one written. -/
theorem registersReadAndWrite : Obligations.RegistersReadAndWrite := by
  intro s n v
  refine ⟨fun himpl => ?written, fun hgap => ?dropped, fun k hk => State.reg_setReg_ne s n k v hk⟩
  case written => rw [State.reg_setReg_same, if_pos ((implementedReg_eq_true_iff n).2 himpl)]
  case dropped =>
    have hn : implementedReg n = false := (implementedReg_eq_false_iff n).2 hgap
    exact ⟨State.reg_unimplemented s n hn, State.setReg_unimplemented s n v hn⟩

end Sys2Proof.Machine

/-! PROOFS. Every step keeps the invariant: each update of the state, each end of an instruction, each instruction, each
boundary (10_state.md sections 3, 4 and 8). -/

namespace Sys2Proof.Machine

/-! Updates of the state -/

/-- PSR may change freely while instructions execute: only a stopped core has to stay in supervisor mode. -/
theorem State.Inv.setPsr {s : State} (h : s.Inv) (hr : s.runState = .running) (p : Psr) :
    ({ s with psr := p } : State).Inv :=
  { h with stoppedSuper := fun hn => absurd hr hn }

theorem State.Inv.dropInput {s : State} (h : s.Inv) : s.dropInput.Inv := { h with }

theorem State.Inv.wake {s : State} (h : s.Inv) : s.wake.Inv :=
  { h with idlyRunning := fun hn => absurd rfl hn, stoppedSuper := fun hn => absurd rfl hn }

theorem State.Inv.tickIdly {s : State} (h : s.Inv) (n : Nat) : (tickIdly n s).Inv := by
  unfold Machine.tickIdly
  split
  · exact h
  · have hb := h.idlyBound
    exact { h with
      idlyBound := show s.idlyCnt - 1 ≤ 32 by omega
      idlyRunning := fun hn => show s.idlyCnt - 1 = 0 by rw [h.idlyRunning hn] }

theorem State.Inv.saveContext {s : State} (h : s.Inv) (v : BitVec 8) (q : Bool) (ret : Word) :
    (saveContext v q ret s).Inv :=
  { h with
    idlyBound := Nat.zero_le 32
    windowBound := Nat.zero_le _
    idlyRunning := fun _ => rfl
    stoppedSuper := fun _ => rfl }

theorem State.Inv.enterHandler {s : State} (h : s.Inv) (w : Word) : (enterHandler w s).Inv :=
  { h with
    pcEven := even_evenAddr w
    idlyRunning := fun hn => absurd rfl hn
    stoppedSuper := fun hn => absurd rfl hn }

theorem State.Inv.returnFromException {s : State} (h : s.Inv) (hr : s.runState = .running) :
    (returnFromException s).Inv :=
  { h.jump (even_evenAddr s.epc) with
    idlyBound := Nat.zero_le 32
    idlyRunning := fun _ => rfl
    stoppedSuper := fun hn => absurd hr hn }

theorem State.Inv.enterLowPower {s : State} (h : s.Inv) (hs : s.psr.s = true) (r : RunState) : (enterLowPower r s).Inv :=
  { h.advance (n := 4) rfl with
    idlyBound := Nat.zero_le 32
    idlyRunning := fun _ => rfl
    stoppedSuper := fun _ => hs }

theorem idlyCount_le (imm5 : BitVec 5) : idlyCount imm5 ≤ 32 := by
  unfold idlyCount
  have := imm5.isLt
  split <;> omega

theorem State.Inv.armIdly {s : State} (h : s.Inv) (hr : s.runState = .running) (imm5 : BitVec 5) :
    ({ s with idlyCnt := idlyCount imm5 } : State).Inv :=
  { h with idlyBound := idlyCount_le imm5, idlyRunning := fun hn => absurd hr hn }

theorem and_and_not_self (v m : Word) : v &&& m &&& ~~~m = 0 := by
  rw [BitVec.and_assoc, BitVec.and_not_self]
  exact BitVec.and_zero

/-- The region registers a reset leaves hold nothing where the region does not exist. -/
theorem freePacr_absent {regions : Fin 9} (k : Nat) {n : Fin 8} (hn : regions.val ≤ n.val) :
    (freePacr regions k)[n.val] = Pacr.zero := by
  simp [freePacr, Nat.not_lt.mpr hn]

theorem State.Inv.resetFields {s : State} (h : s.Inv) : (resetFields s).Inv :=
  { h with
    idlyBound := Nat.zero_le 32
    mpLegal := show (0 : BitVec 2).getLsbD 1 = false by decide
    mpAbsent := fun _ => rfl
    caprMasked := and_and_not_self _ _
    pacrAbsent := fun _ hn => freePacr_absent _ hn
    ridAbsent := fun hz => if_pos hz
    iaeAbsent := fun _ => rfl
    gcrAbsent := fun hg => if_neg (Bool.not_eq_true _ ▸ hg)
    windowBound := Nat.zero_le _
    idlyRunning := fun _ => rfl
    stoppedSuper := fun _ => rfl }

/-- A write of a control register keeps the bits hard-wired that 10_state.md section 4 says. The cases of the number are, in
order, PSR, EPSR, EPC, GCR, CCR, CAPR, PACR, PRSR, CHR and the rest. -/
theorem State.Inv.writeCr {s t : State} (h : s.Inv) (hr : s.runState = .running) {n sel : BitVec 5} {v : Word}
    (hw : writeCr n sel v s = .ok t) : t.Inv := by
  unfold Machine.writeCr at hw
  split at hw
  case isTrue => cases hw; exact h
  case isFalse =>
  split at hw
  case h_1 => cases hw; exact h.setPsr hr _
  case h_2 => cases hw; exact { h with }
  case h_3 => cases hw; exact { h with }
  case h_4 =>
    cases hw
    split
    next hp => exact { h with gcrAbsent := fun hg => absurd (hp.symm.trans hg) (by decide) }
    next => exact h
  case h_5 =>
    unfold writeCcr at hw
    split at hw
    next => cases hw; exact h
    next hz =>
      split at hw
      next => cases hw
      next hv =>
        cases hw
        exact { h with mpLegal := by simpa using hv, mpAbsent := fun hz' => absurd hz' hz }
  case h_6 =>
    cases hw
    split
    next => exact h
    next => exact { h with caprMasked := and_and_not_self _ _ }
  case h_7 =>
    cases hw
    split
    next hlt =>
      refine { h with pacrAbsent := fun n hn => ?_ }
      have hne : s.rid.toNat ≠ n.val := fun he => absurd hn (by rw [← he]; exact Nat.not_le.mpr hlt)
      rw [Vector.getElem_set_ne _ _ hne]
      exact h.pacrAbsent n hn
    next => exact h
  case h_8 =>
    cases hw
    split
    next => exact h
    next hz => exact { h with ridAbsent := fun hz' => absurd hz' hz }
  case h_9 =>
    cases hw
    split
    next hp => exact { h with iaeAbsent := fun hg => absurd (hp.symm.trans hg) (by decide) }
    next => exact h
  case h_10 => cases hw; exact h

/-! Ends of instructions -/

/-- Whatever next state the outcome answers satisfies the invariant. -/
def LeadsToInv (o : Out) : Prop := ∀ t, o = .next t → t.Inv

theorem State.Inv.leadsTo {t : State} (h : t.Inv) : LeadsToInv (.next t) := by
  intro u hu
  cases hu
  exact h

theorem leadsToInv_exceptionEntry {s : State} (h : s.Inv) (v : BitVec 8) (q : Bool) (ret : Word) :
    LeadsToInv (exceptionEntry v q ret s) := fun _ ht => h.entered (exceptionEntry_next ht)

theorem leadsToInv_takeException {s : State} (h : s.Inv) (e : Exc) : LeadsToInv (takeException e s) :=
  leadsToInv_exceptionEntry h _ _ _

theorem leadsToInv_finish {r : Res State} (hok : ∀ t, r = .ok t → t.Inv) (hraise : ∀ e u, r = .raise e u → u.Inv) :
    LeadsToInv (finish r) := by
  intro t ht
  rcases finish_next ht with hr | ⟨e, u, hr, hu⟩
  · exact hok t hr
  · exact leadsToInv_takeException (hraise e u hr) e t hu

theorem leadsToInv_privileged {s : State} (h : s.Inv) {k : Out} (hk : s.psr.s = true → LeadsToInv k) :
    LeadsToInv (privileged s k) := by
  unfold privileged
  split
  next hs => exact hk hs
  next => exact leadsToInv_takeException h _

theorem leadsToInv_writeBack {s : State} (h : s.Inv) (n : Reg) (v : Word) {ilen : Word} (hi : ilen.getLsbD 0 = false) :
    LeadsToInv (writeBack n v ilen s) := ((h.setReg n v).advance hi).leadsTo

theorem leadsToInv_writeFlag {s : State} (h : s.Inv) (b : Bool) : LeadsToInv (writeFlag b s) :=
  ((h.setC b).advance rfl).leadsTo

theorem leadsToInv_loadTo {s : State} (h : s.Inv) (n : Reg) (sz : Size) (a : Word) {ilen : Word}
    (hi : ilen.getLsbD 0 = false) : LeadsToInv (loadTo n sz a ilen s) := by
  intro t ht
  rcases loadTo_next ht with rfl | he
  · exact (h.setReg _ _).advance hi
  · exact h.entered he

theorem leadsToInv_storeFrom {s : State} (h : s.Inv) (v : Word) (sz : Size) (a : Word) {ilen : Word}
    (hi : ilen.getLsbD 0 = false) : LeadsToInv (storeFrom v sz a ilen s) := by
  intro t ht
  rcases storeFrom_next ht with rfl | he
  · exact (h.writeData _ _ _).advance hi
  · exact h.entered he

theorem leadsToInv_pushRegs {s : State} (h : s.Inv) (rs : List Reg) :
    LeadsToInv (finish ((pushRegs rs s).map fun t => t.advance 2)) := by
  refine leadsToInv_finish (fun t ht => ?_) (fun e u hu => ?_)
  · obtain ⟨u, hu, rfl⟩ := Res.map_eq_ok ht
    obtain ⟨_, _, rfl⟩ := pushRegs_eq_ok.mp hu
    exact ((h.setMem (storeSlots_wf h.memWf _)).setReg _ _).advance rfl
  · obtain ⟨_, _, _, rfl⟩ := pushRegs_eq_raise (Res.map_eq_raise hu)
    exact h.setMem (storeSlots_wf h.memWf _)

theorem leadsToInv_popRegs {s : State} (h : s.Inv) (rs : List Reg) {k : State → State}
    (hk : ∀ t : State, t.Inv → (k t).Inv) : LeadsToInv (finish ((popRegs rs s).map k)) := by
  refine leadsToInv_finish (fun t ht => ?_) (fun e u hu => ?_)
  · obtain ⟨u, hu, rfl⟩ := Res.map_eq_ok ht
    obtain ⟨_, _, rfl⟩ := popRegs_eq_ok.mp hu
    exact hk _ ((h.setRegs _ _).setReg _ _)
  · rw [popRegs_eq_raise (Res.map_eq_raise hu)]
    exact h

theorem leadsToInv_vectorTo {s : State} (h : s.Inv) (v : BitVec 8) : LeadsToInv (vectorTo v s) := by
  intro t ht
  have h2 : (savedTwice s).Inv := h.saveContext _ _ _
  rcases vectorTo_next ht with ⟨w, rfl⟩ | ⟨w, rfl⟩ | rfl
  · exact h.enterHandler w
  · exact h2.enterHandler w
  · exact { h2 with idlyRunning := fun _ => rfl, stoppedSuper := fun _ => rfl }

theorem leadsToInv_resetMachine {s : State} (h : s.Inv) : LeadsToInv (resetMachine s) :=
  leadsToInv_vectorTo h.resetFields 0

/-! Instructions -/

theorem leadsToInv_execMtcr32 {s : State} (h : s.Inv) (hr : s.runState = .running) (rx : BitVec 4) (crz sel : BitVec 5) :
    LeadsToInv (execMtcr32 rx crz sel s) := by
  refine leadsToInv_privileged h fun _ => ?_
  split
  · split
    · exact leadsToInv_resetMachine h
    · exact leadsToInv_takeException h _
  · refine leadsToInv_finish (fun t ht => ?_) (fun e u hu => ?_)
    · obtain ⟨u, hu, rfl⟩ := Res.map_eq_ok ht
      exact (h.writeCr hr hu).advance rfl
    · exact absurd (Res.map_eq_raise hu) (writeCr_ne_raise _ _ _ _ _ _)

/-- What NIR16 loads goes to EPSR and EPC alone. -/
theorem nestRestore_eq (s : State) (vs : List Word) : ∃ p w, nestRestore s vs = { s with epsr := p, epc := w } := by
  unfold nestRestore
  split
  · exact ⟨_, _, rfl⟩
  · exact ⟨s.epsr, s.epc, rfl⟩

theorem leadsToInv_execNir16 {s : State} (h : s.Inv) (hr : s.runState = .running) : LeadsToInv (execNir16 s) := by
  refine leadsToInv_privileged h fun _ => ?_
  rcases alignedSp_cases s with ⟨_, ha⟩ | ⟨_, ha⟩
  · rw [ha, Res.andThen_ok]
    refine leadsToInv_finish (fun t ht => ?_) (fun e u hu => ?_)
    · obtain ⟨vs, _, rfl⟩ := Res.map_eq_ok ht
      obtain ⟨p, w, hn⟩ := nestRestore_eq s vs
      have hi : ({ s with epsr := p, epc := w } : State).Inv := { h with }
      rw [hn]
      exact (hi.setReg sp (s.reg sp + 8)).returnFromException hr
    · rw [(loadWords_eq_raise (Res.map_eq_raise hu)).1]
      exact h
  · rw [ha]
    exact leadsToInv_takeException h _

theorem leadsToInv_execNie16 {s : State} (h : s.Inv) (hr : s.runState = .running) : LeadsToInv (execNie16 s) := by
  refine leadsToInv_privileged h fun _ => ?_
  rcases alignedSp_cases s with ⟨_, ha⟩ | ⟨_, ha⟩
  · rw [ha, Res.andThen_ok]
    refine leadsToInv_finish (fun t ht => ?_) (fun e u hu => ?_)
    · obtain ⟨u, hu, rfl⟩ := Res.map_eq_ok ht
      obtain ⟨_, rfl⟩ := storeWords_eq_ok.mp hu
      have hi := (h.setMem (storeSlots_wf (e := s.cfg.endian) h.memWf (nieSlots s))).setReg sp (s.reg sp - 8)
      exact (hi.setPsr hr _).advance rfl
    · obtain ⟨_, pre, _, _, _, _, rfl⟩ := storeWords_eq_raise (Res.map_eq_raise hu)
      exact h.setMem (storeSlots_wf h.memWf _)
  · rw [ha]
    exact leadsToInv_takeException h _

/-- Every instruction that starts in a running core keeps the invariant. -/
theorem leadsToInv_exec {s : State} (h : s.Inv) (hr : s.runState = .running) (i : Instr) : LeadsToInv (exec i s) := by
  cases i
  case addi16SpSp | subi16SpSp | addi16RzSp | addi16Oimm8 | subi16Oimm8 | movi16 | bclri16 | bseti16 | lsli16 | lsri16 |
      asri16 | addu16RzRxRy | subu16RzRxRy | addi16Oimm3 | subi16Oimm3 | addu16RzRx | subu16RzRx | mvcv16 | and16 |
      andn16 | or16 | xor16 | nor16 | mov16 | lsl16 | lsr16 | asr16 | rotl16 | zextb16 | zexth16 | sextb16 | sexth16 |
      mult16 =>
    exact leadsToInv_writeBack h _ _ rfl
  case addc16 | subc16 => exact leadsToInv_writeBack (h.setC _) _ _ rfl
  case cmphsi16 | cmplti16 | cmpnei16 | btsti16 | cmphs16 | cmplt16 | cmpne16 | tst16 | tstnbz16 =>
    exact leadsToInv_writeFlag h _
  case lrw16 | lrw32 | ld16b | ld16h | ld16w | ld16wSp | ld32b | ld32h | ld32w => exact leadsToInv_loadTo h _ _ _ rfl
  case st16b | st16h | st16w | st16wSp | st32b | st32h | st32w => exact leadsToInv_storeFrom h _ _ _ rfl
  case br16 | br32 => exact (h.jump (even_add h.pcEven (even_displacement _))).leadsTo
  case bt16 =>
    refine State.Inv.leadsTo ?_
    split
    · exact h.jump (even_add h.pcEven (even_displacement _))
    · exact h.advance rfl
  case bf16 =>
    refine State.Inv.leadsTo ?_
    split
    · exact h.advance rfl
    · exact h.jump (even_add h.pcEven (even_displacement _))
  case bsr32 => exact ((h.setReg _ _).jump (even_add h.pcEven (even_displacement _))).leadsTo
  case jmp16 => exact (h.jump (even_evenAddr _)).leadsTo
  case jsr16 => exact ((h.setReg _ _).jump (even_evenAddr _)).leadsTo
  case push16 | push16List8 | ipush16 => exact leadsToInv_pushRegs h _
  case pop16 | pop16List8 => exact leadsToInv_popRegs h _ fun _ ht => ht.jump (even_evenAddr _)
  case ipop16 => exact leadsToInv_popRegs h _ fun _ ht => ht.advance rfl
  case nie16 => exact leadsToInv_execNie16 h hr
  case nir16 => exact leadsToInv_execNir16 h hr
  case sync32 => exact (h.advance rfl).leadsTo
  case idly32 imm5 =>
    refine State.Inv.leadsTo ?_
    split
    · exact ((h.setC false).armIdly hr imm5).advance rfl
    · exact h.advance rfl
  case trap32 | bkpt16 => exact leadsToInv_takeException h _
  case rte32 => exact leadsToInv_privileged h fun _ => (h.returnFromException hr).leadsTo
  case stop32 | wait32 | doze32 => exact leadsToInv_privileged h fun hs => (h.enterLowPower hs _).leadsTo
  case mfcr32 => exact leadsToInv_privileged h fun _ => leadsToInv_writeBack h _ _ rfl
  case mtcr32 => exact leadsToInv_execMtcr32 h hr _ _ _
  case psrclr32 | psrset32 => exact leadsToInv_privileged h fun _ => ((h.setPsr hr _).advance rfl).leadsTo

/-! The boundary -/

/-- What follows the boundary keeps the invariant: its own outcome does, or an instruction starts in a running core that
satisfies it. -/
def PlanKeepsInv : Plan → Prop
  | .stop o => LeadsToInv o
  | .run _ t => t.Inv ∧ t.runState = .running

theorem leadsToInv_refused (r : Refusal) : LeadsToInv (.refused r) := fun _ ht => nomatch ht

theorem leadsToInv_fault (f : Fault) : LeadsToInv (.fault f) := fun _ ht => nomatch ht

/-- A fetch that raises an exception leaves the state as it was. -/
theorem fetchHalf_eq_raise {s t : State} {k : Nat} {a : Word} {e : Exc} (h : fetchHalf s k a = .raise e t) : t = s :=
  (guardAccess_eq_raise (Res.map_eq_raise h)).1

theorem fetchInstr_eq_raise {s t : State} {e : Exc} (h : fetchInstr s = .raise e t) : t = s := by
  rcases Res.andThen_eq_raise h with h0 | ⟨h0, _, h1⟩
  · exact fetchHalf_eq_raise h0
  · split at h1
    · exact fetchHalf_eq_raise (Res.map_eq_raise h1)
    · cases h1

theorem planKeepsInv_fetchPlan {s : State} (h : s.Inv) (hr : s.runState = .running) : PlanKeepsInv (fetchPlan s) := by
  unfold fetchPlan
  split
  next e t hf => rw [fetchInstr_eq_raise hf]; exact leadsToInv_takeException h e
  next r _ => exact leadsToInv_refused r
  next w _ =>
    split
    · exact leadsToInv_takeException h _
    · exact ⟨h.prefetch _, hr⟩

theorem planKeepsInv_unlessAccelerated {s : State} {p : Plan} (hp : PlanKeepsInv p) :
    PlanKeepsInv (unlessAccelerated s p) := by
  unfold unlessAccelerated
  split
  · exact leadsToInv_refused _
  · exact hp

theorem planKeepsInv_idlePlan {s : State} (h : s.Inv) : PlanKeepsInv (idlePlan s) := by
  unfold idlePlan
  split
  next hr => exact planKeepsInv_unlessAccelerated (planKeepsInv_fetchPlan h hr)
  next => exact leadsToInv_fault _
  all_goals exact planKeepsInv_unlessAccelerated h.leadsTo

theorem planKeepsInv_requestPlan {s : State} (h : s.Inv) (v : BitVec 8) : PlanKeepsInv (requestPlan v s) := by
  unfold requestPlan
  split
  · exact leadsToInv_fault _
  split
  · exact leadsToInv_refused _
  refine planKeepsInv_unlessAccelerated ?_
  unfold interruptPlan
  split
  · exact leadsToInv_exceptionEntry h.wake _ _ _
  · exact planKeepsInv_fetchPlan h.wake rfl

theorem planKeepsInv_boundaryPlan {s : State} (h : s.Inv) (inp : Input) : PlanKeepsInv (boundaryPlan inp s) := by
  unfold boundaryPlan
  split
  · cases inp with
    | reset => exact leadsToInv_resetMachine h
    | irq v => exact planKeepsInv_requestPlan h v
    | idle => exact planKeepsInv_idlePlan h
  · exact leadsToInv_refused _

theorem leadsToInv_retire {o : Out} (h : LeadsToInv o) (n : Nat) : LeadsToInv (retire n o) := by
  cases o with
  | next t => exact ((h t rfl).tickIdly n).leadsTo
  | fault f => exact leadsToInv_fault f
  | refused r => exact leadsToInv_refused r

/-- Settles O15: the boundary keeps the invariant, and so does the instruction that starts after it, each constructor by
what its end does to the state. -/
theorem stepKeepsInvariant : Obligations.StepKeepsInvariant := by
  intro s t h ht
  have hp := planKeepsInv_boundaryPlan h.dropInput s.sample
  unfold step at ht
  split at ht
  next o ho => rw [ho] at hp; exact hp t ht
  next i u hu =>
    rw [hu] at hp
    obtain ⟨hi, hr⟩ := hp
    exact leadsToInv_retire (leadsToInv_exec hi hr i) _ t ht

end Sys2Proof.Machine

/-! PROOFS. Exception entry (60_exceptions.md R410 to R420) and the instructions that do nothing but raise an exception. -/

namespace Sys2Proof.Machine

/-- The address the model reads a vector word from is four times the vector number (60_exceptions.md R400). -/
theorem setWidth_shiftLeft_two (v : BitVec 8) : (v.setWidth 32 <<< 2 : Word) = vectorAddr v := by
  apply BitVec.eq_of_toNat_eq
  simp only [vectorAddr, BitVec.toNat_shiftLeft, BitVec.toNat_setWidth, BitVec.toNat_ofNat, Nat.shiftLeft_eq]
  have := v.isLt
  omega

/-- The vector an event is entered with, by the two conditions that decide it (60_exceptions.md R420). -/
theorem effectiveVector_eq (v : BitVec 8) (q : Bool) (s : State) :
    effectiveVector v q s = if s.psr.ee = false ∧ q = false then 8 else v := by
  simp [effectiveVector]

theorem effectiveVector_exception (v : BitVec 8) (s : State) : effectiveVector v false s = entryVector s v := by
  unfold effectiveVector entryVector
  cases s.psr.ee <;> rfl

theorem effectiveVector_irq (v : BitVec 8) (s : State) : effectiveVector v true s = v := by
  simp [effectiveVector]

/-- Saving the context and going to the handler is everything an entry does, field by field. -/
theorem tookException_enterHandler (v : BitVec 8) (q : Bool) (ret : Word) (s : State) :
    TookException v q ret s
      (enterHandler (s.mem.readWord s.cfg.endian (vectorAddr v)) (saveContext v q ret s)) := by
  constructor <;> intros <;> rfl

/-- Where the vector word may be fetched, the entry completes. -/
theorem exceptionEntry_of_readable {v : BitVec 8} {q : Bool} {ret : Word} {s : State}
    (h : VectorReadable s (effectiveVector v q s)) :
    ∃ t, exceptionEntry v q ret s = .next t ∧ TookException (effectiveVector v q s) q ret s t := by
  unfold VectorReadable at h
  rw [← setWidth_shiftLeft_two] at h
  refine ⟨_, exceptionEntry_of_permit h, ?_⟩
  rw [setWidth_shiftLeft_two]
  exact tookException_enterHandler _ _ _ _

/-- Taking a synchronous exception enters its vector, or vector 8 while PSR.EE = 0. -/
theorem raises_takeException {e : Exc} {s : State} (h : VectorReadable s (entryVector s e.vector)) :
    Raises (takeException e s) e.vector s := by
  rw [← effectiveVector_exception] at h
  obtain ⟨t, ht, took⟩ := exceptionEntry_of_readable (ret := s.pc) h
  rw [effectiveVector_exception] at took
  exact ⟨t, ht, took⟩

/-- Settles O19: the entry of the vector that R420 gives. -/
theorem exceptionEntrySavesAndVectors : Obligations.ExceptionEntrySavesAndVectors := by
  intro s v isIrq ret h
  rw [← effectiveVector_eq] at h ⊢
  exact exceptionEntry_of_readable h

/-- Outside supervisor mode a privileged instruction is the privilege violation exception, whatever it would do. -/
theorem exec_privileged_user {i : Instr} {s : State} (hi : isPrivileged i = true) (hs : s.psr.s = false) :
    exec i s = takeException .privilege s := by
  cases i
  case mfcr32 | mtcr32 | psrset32 | psrclr32 | rte32 | wait32 | doze32 | stop32 | nie16 | nir16 =>
    exact privileged_user hs
  all_goals exact absurd hi Bool.false_ne_true

/-- Settles O22. -/
theorem userModePrivilegedInstructionTraps : Obligations.UserModePrivilegedInstructionTraps := by
  intro i s hi hs hv
  rw [exec_privileged_user hi hs]
  exact raises_takeException hv

/-- TRAP32 n has vector 16 + n (44_privileged_special.md R357). -/
theorem vector_trap (n : BitVec 2) : (Exc.trap n).vector = BitVec.ofNat 8 (16 + n.toNat) := by
  revert n
  decide

/-- Settles O23: both instructions are nothing but their exception. -/
theorem trapAndBreakpointEnterTheirVectors : Obligations.TrapAndBreakpointEnterTheirVectors := by
  refine ⟨fun s n hv => ?trap, fun s hv => ?breakpoint⟩
  case trap =>
    rw [← vector_trap] at hv ⊢
    exact raises_takeException hv
  case breakpoint => exact raises_takeException (e := .breakpoint) hv

end Sys2Proof.Machine

/-! PROOFS. The step: the fetch and what it decodes to, the boundary with an interrupt or a reset, the software reset
(20_memory.md R112, R133, 30_encoding.md R153, 60_exceptions.md R432, 70_reset_and_hazards.md R471 to R473). -/

namespace Sys2Proof.Machine

/-! One access -/

theorem guardAccess_of_permit {s : State} {k : AccessKind} {a : Word} {n : Nat}
    (h : accessVerdict s k s.psr.s a n = .permit) : guardAccess s k a n = .ok () := by
  simp [guardAccess, h]

theorem guardAccess_of_deny {s : State} {k : AccessKind} {a : Word} {n : Nat}
    (h : accessVerdict s k s.psr.s a n = .deny) : guardAccess s k a n = .raise .accessError s := by
  simp [guardAccess, h]

/-! The halfwords a fetch gives -/

/-- What the statements call the fetched halfword is the one the model fetches (20_memory.md R133). -/
theorem fetchGives_iff {s : State} {k : Nat} {a : Word} {h : Half} : FetchGives s k a h ↔ s.codeHalf k a = h := by
  unfold FetchGives
  split
  next hin =>
    obtain ⟨hk, hl⟩ := hin
    have hw : s.window[k]? = some s.window[k] := List.getElem?_eq_getElem hl
    rw [codeHalf_of_window a hk hw, hw, Option.some_inj]
  next hout =>
    rw [codeHalf_of_memory a (by omega)]
    exact eq_comm

theorem fetchHalf_of_permit {s : State} {k : Nat} {a : Word} (h : accessVerdict s .fetch s.psr.s a 2 = .permit) :
    fetchHalf s k a = .ok (s.codeHalf k a) := by
  simp [fetchHalf, guardAccess_of_permit h]

theorem fetchHalf_of_deny {s : State} {k : Nat} {a : Word} (h : accessVerdict s .fetch s.psr.s a 2 = .deny) :
    fetchHalf s k a = .raise .accessError s := by
  simp [fetchHalf, guardAccess_of_deny h]

/-- The instruction word of two fetched halfwords: the first tells whether the second belongs to it (30_encoding.md
R150). -/
def fetchedWord (h0 h1 : Half) : InstrWord := if isLong h0 then .full (h0 ++ h1) else .half h0

/-- The halfwords an instruction occupies may be fetched. -/
structure FetchPermitted (s : State) (h0 : Half) : Prop where
  firstHalf : accessVerdict s .fetch s.psr.s s.pc 2 = .permit
  secondHalf : isLong h0 = true → accessVerdict s .fetch s.psr.s (s.pc + 2) 2 = .permit

theorem fetchInstr_of_permit {s : State} {h0 h1 : Half} (g0 : FetchGives s 0 s.pc h0) (g1 : FetchGives s 1 (s.pc + 2) h1)
    (hp : FetchPermitted s h0) : fetchInstr s = .ok (fetchedWord h0 h1) := by
  rw [fetchInstr, fetchHalf_of_permit hp.firstHalf, fetchGives_iff.mp g0, Res.andThen_ok, fetchedWord]
  split
  next hl => rw [fetchHalf_of_permit (hp.secondHalf hl), fetchGives_iff.mp g1, Res.map_ok]
  next => rfl

/-- The first halfword may not be fetched, or it may and the second, which belongs to the instruction, may not. -/
def FetchDenied (s : State) (h0 : Half) : Prop :=
  accessVerdict s .fetch s.psr.s s.pc 2 = .deny ∨
    (accessVerdict s .fetch s.psr.s s.pc 2 = .permit ∧ isLong h0 = true ∧
      accessVerdict s .fetch s.psr.s (s.pc + 2) 2 = .deny)

theorem fetchInstr_of_deny {s : State} {h0 : Half} (g0 : FetchGives s 0 s.pc h0) (hd : FetchDenied s h0) :
    fetchInstr s = .raise .accessError s := by
  rw [fetchInstr]
  rcases hd with hd | ⟨hp, hl, hd⟩
  · rw [fetchHalf_of_deny hd, Res.andThen_raise]
  · rw [fetchHalf_of_permit hp, fetchGives_iff.mp g0, Res.andThen_ok, if_pos hl, fetchHalf_of_deny hd, Res.map_raise]

/-! What the halfwords decode to -/

/-- Reading the bytes of two halfwords back gives their instruction word. -/
theorem splitWord_halves (e : Endian) (h0 h1 : Half) :
    ∃ rest, splitWord e (halfBytes e h0 ++ halfBytes e h1) = .ok (fetchedWord h0 h1, rest) := by
  obtain ⟨a0, a1, ha, ja⟩ := joinHalf_halfBytes e h0
  obtain ⟨b0, b1, hb, jb⟩ := joinHalf_halfBytes e h1
  rw [ha, hb]
  simp only [List.cons_append, List.nil_append, splitWord, ja, jb, fetchedWord]
  split
  · exact ⟨[], rfl⟩
  · exact ⟨[b0, b1], rfl⟩

/-- Decoding the bytes of two halfwords is decoding their instruction word. -/
theorem decode_halves (c : Config) (h0 h1 : Half) :
    ∃ tail, decode c (halfBytes c.endian h0 ++ halfBytes c.endian h1) =
      (decodeWord c (fetchedWord h0 h1)).map fun i => (i, tail) := by
  obtain ⟨tail, hs⟩ := splitWord_halves c.endian h0 h1
  refine ⟨tail, ?_⟩
  simp only [decode, hs]
  cases decodeWord c (fetchedWord h0 h1) <;> rfl

theorem decodeWord_of_decode_ok {c : Config} {h0 h1 : Half} {i : Instr} {rest : List Byte}
    (h : decode c (halfBytes c.endian h0 ++ halfBytes c.endian h1) = .ok (i, rest)) :
    decodeWord c (fetchedWord h0 h1) = .ok i := by
  obtain ⟨tail, hd⟩ := decode_halves c h0 h1
  rw [hd] at h
  cases hw : decodeWord c (fetchedWord h0 h1) with
  | ok j => rw [hw] at h; cases h; rfl
  | error e => rw [hw] at h; cases h

theorem decodeWord_of_decode_error {c : Config} {h0 h1 : Half} {e : DecodeError}
    (h : decode c (halfBytes c.endian h0 ++ halfBytes c.endian h1) = .error e) :
    decodeWord c (fetchedWord h0 h1) = .error e := by
  obtain ⟨tail, hd⟩ := decode_halves c h0 h1
  rw [hd] at h
  cases hw : decodeWord c (fetchedWord h0 h1) with
  | ok j => rw [hw] at h; cases h
  | error e => rw [hw] at h; cases h; rfl

/-- Every 16-bit row builds an instruction of 16 bits. -/
theorem length_encode_rows16Of (c : Config) : ∀ r ∈ rows16Of c, ∀ w, (encode (r.build w)).length = 2 := by
  have h : ∀ r ∈ rows16 ++ [jsr16AltRow], ∀ w, (encode (r.build w)).length = 2 := by
    simp [rows16, rowsLow, rowsImm, rowsReg, rowsMem, jsr16AltRow, encode, InstrWord.length]
  intro r hr
  refine h r ?_
  unfold rows16Of at hr
  split at hr
  · exact hr
  · exact List.mem_append_left _ hr

/-- Every 32-bit row builds an instruction of 32 bits. -/
theorem length_encode_rows32 : ∀ r ∈ rows32, ∀ w, (encode (r.build w)).length = 4 := by
  simp [rows32, rowsSys, rowsWide, encode, InstrWord.length]

/-- What a word decodes to has the length of the word. -/
theorem length_encode_of_decodeWord {c : Config} {w : InstrWord} {i : Instr} (h : decodeWord c w = .ok i) :
    (encode i).length = w.length := by
  cases w with
  | half h0 =>
    cases hl : lookup (rows16Of c) h0 with
    | none => simp [decodeWord, hl] at h
    | some j =>
      obtain ⟨r, hr, _, rfl⟩ := exists_row_of_lookup hl
      simp only [decodeWord, hl] at h
      split at h
      · cases h
      · cases h; exact length_encode_rows16Of c r hr h0
  | full w0 =>
    cases hl : lookup rows32 w0 with
    | none => simp [decodeWord, hl] at h
    | some j =>
      obtain ⟨r, hr, _, rfl⟩ := exists_row_of_lookup hl
      simp only [decodeWord, hl] at h
      cases h
      exact length_encode_rows32 r hr w0

/-! The step, by what its boundary plans -/

theorem step_of_stop {s : State} {o : Out} (h : boundaryPlan s.sample s.dropInput = .stop o) : step s = o := by
  rw [step, h]

theorem step_of_run {s t : State} {i : Instr} (h : boundaryPlan s.sample s.dropInput = .run i t) :
    step s = retire t.idlyCnt (exec i t) := by
  rw [step, h]

theorem boundaryPlan_reset {s : State} (h : s.cfg.supported = true) : boundaryPlan .reset s = .stop (resetMachine s) :=
  if_pos h

theorem boundaryPlan_irq {s : State} (v : BitVec 8) (h : s.cfg.supported = true) :
    boundaryPlan (.irq v) s = requestPlan v s := if_pos h

theorem boundaryPlan_idle {s : State} (h : s.cfg.supported = true) : boundaryPlan .idle s = idlePlan s := if_pos h

/-- The core runs and no event is presented, so that the step is a fetch. -/
structure StartsFetch (s : State) : Prop where
  supported : s.cfg.supported = true
  idle : s.sample = .idle
  running : s.runState = .running
  iae : s.iae = false

theorem boundaryPlan_of_startsFetch {s : State} (h : StartsFetch s) :
    boundaryPlan s.sample s.dropInput = fetchPlan s.dropInput := by
  rw [h.idle, boundaryPlan_idle (s := s.dropInput) h.supported]
  simp [idlePlan, h.running, h.iae]

theorem fetchPlan_of_raise {s t : State} {e : Exc} (h : fetchInstr s = .raise e t) :
    fetchPlan s = .stop (takeException e t) := by
  rw [fetchPlan, h]

theorem fetchPlan_of_undecodable {s : State} {w : InstrWord} {e : DecodeError} (hf : fetchInstr s = .ok w)
    (hd : decodeWord s.cfg w = .error e) : fetchPlan s = .stop (takeException .illegal s) := by
  simp only [fetchPlan, hf, hd]

theorem fetchPlan_of_decoded {s : State} {w : InstrWord} {i : Instr} (hf : fetchInstr s = .ok w)
    (hd : decodeWord s.cfg w = .ok i) : fetchPlan s = .run i (prefetch (w.length / 2) s) := by
  simp only [fetchPlan, hf, hd]

/-- Settles O7: the fetch gives the word of the halfwords, and no word of them decodes. -/
theorem undecodableWordIsIllegalInstruction : Obligations.UndecodableWordIsIllegalInstruction := by
  intro s e h0 h1 hsup hidle hrun hiae g0 g1 hp0 hp1 hdec hv
  have hf : fetchInstr s.dropInput = .ok (fetchedWord h0 h1) :=
    fetchInstr_of_permit (s := s.dropInput) g0 g1 ⟨hp0, hp1⟩
  have hplan := boundaryPlan_of_startsFetch ⟨hsup, hidle, hrun, hiae⟩
  rw [fetchPlan_of_undecodable hf (decodeWord_of_decode_error hdec)] at hplan
  rw [step_of_stop hplan]
  exact raises_takeException (e := .illegal) (s := s.dropInput) hv

/-- Settles O8: the fetch raises the access error before anything is decoded. -/
theorem deniedFetchIsAccessError : Obligations.DeniedFetchIsAccessError := by
  intro s h0 hsup hidle hrun hiae g0 hd hv
  have hf : fetchInstr s.dropInput = .raise .accessError s.dropInput := fetchInstr_of_deny (s := s.dropInput) g0 hd
  have hplan := boundaryPlan_of_startsFetch ⟨hsup, hidle, hrun, hiae⟩
  rw [fetchPlan_of_raise hf] at hplan
  rw [step_of_stop hplan]
  exact raises_takeException (e := .accessError) (s := s.dropInput) hv

/-- The window while an instruction executes holds the halfwords after it, as a fetch gives them before it. -/
theorem prefetched_window (n : Nat) (s : State) : Prefetched s n (prefetch n s).window :=
  ⟨length_window_prefetch n s, fun _ _ hk => fetchGives_iff.mpr (getElem?_window_prefetch hk).symm⟩

theorem tickIdly_eq (n : Nat) (t : State) :
    tickIdly n t = { t with idlyCnt := if n = 0 then t.idlyCnt else t.idlyCnt - 1 } := by
  unfold tickIdly
  split <;> rfl

/-- Settles O6: the window is the one the fetch fills, the state is that of the plan, and the outcome retires. -/
theorem stepRunsDecodedInstruction : Obligations.StepRunsDecodedInstruction := by
  intro s i h0 h1 rest hsup hidle hrun hiae g0 g1 hp0 hp1 hdec
  have hf : fetchInstr s.dropInput = .ok (fetchedWord h0 h1) :=
    fetchInstr_of_permit (s := s.dropInput) g0 g1 ⟨hp0, hp1⟩
  have hd : decodeWord s.cfg (fetchedWord h0 h1) = .ok i := decodeWord_of_decode_ok hdec
  have hplan := boundaryPlan_of_startsFetch ⟨hsup, hidle, hrun, hiae⟩
  rw [fetchPlan_of_decoded hf hd, ← length_encode_of_decodeWord hd] at hplan
  have hstep := step_of_run hplan
  refine ⟨(prefetch ((encode i).length / 2) s.dropInput).window, prefetched_window _ s.dropInput, ?_, ?_, ?_⟩
  · intro t ht
    rw [hstep, show exec i (prefetch _ s.dropInput) = .next t from ht, retire, tickIdly_eq]
    rfl
  · intro f hfault
    rw [hstep, show exec i (prefetch _ s.dropInput) = .fault f from hfault, retire]
  · intro r hrefused
    rw [hstep, show exec i (prefetch _ s.dropInput) = .refused r from hrefused, retire]

/-! Interrupts and reset -/

theorem sample_of_cons {s : State} {inp : Input} {rest : List Input} (h : s.inputs = inp :: rest) : s.sample = inp := by
  simp [State.sample, h]

theorem dropInput_of_cons {s : State} {inp : Input} {rest : List Input} (h : s.inputs = inp :: rest) :
    s.dropInput = { s with inputs := rest } := by
  simp [State.dropInput, h]

/-- A request that no mask holds back is taken at the boundary, from a low-power state too (60_exceptions.md R432, R460). -/
theorem requestPlan_of_accepted {s : State} {v : BitVec 8} (hv : 32 ≤ v.toNat) (hr : s.runState ≠ .stuck)
    (hiae : s.iae = false) (ha : acceptsInterrupt s = true) : requestPlan v s = .stop (takeInterrupt v s.wake) := by
  rw [requestPlan, if_neg hr, if_neg (Nat.not_lt.mpr hv), unlessAccelerated_of_false _ hiae, interruptPlan]
  exact if_pos ha

/-- Settles O9: the plan is the entry itself, made in the state the request has woken. -/
theorem enabledInterruptIsTaken : Obligations.EnabledInterruptIsTaken := by
  intro s v rest hsup hin hv hr hiae hie hee hcnt hvec
  have ha : acceptsInterrupt s = true := by simp [acceptsInterrupt, hie, hee, hcnt]
  have hplan : boundaryPlan s.sample s.dropInput = .stop (takeInterrupt v s.dropInput.wake) := by
    rw [sample_of_cons hin, boundaryPlan_irq (s := s.dropInput) v hsup]
    exact requestPlan_of_accepted (s := s.dropInput) hv hr hiae ha
  have hread : VectorReadable s.dropInput.wake (effectiveVector v true s.dropInput.wake) := by
    rw [effectiveVector_irq]
    exact hvec
  obtain ⟨t, ht, took⟩ := exceptionEntry_of_readable (ret := s.pc) hread
  rw [effectiveVector_irq, dropInput_of_cons hin] at took
  exact ⟨t, (step_of_stop hplan).trans ht, { took with }⟩

/-- A reset turns the MPU off, so that only the bus or a device window can keep its vector word from being fetched. -/
theorem accessVerdict_resetFields {s : State} {a : Word} {n : Nat} (hb : busError s.cfg .fetch a n = false)
    (ht : inTcip s.cfg a n = false) : accessVerdict (resetFields s) .fetch true a n = .permit := by
  have hm : mpuVerdict (resetFields s) .fetch true a = .permit := mpuVerdict_off (.inr rfl)
  simp [accessVerdict, hm, hb, ht]

/-- Every region register is disabled after a reset (10_state.md R90). -/
theorem freePacr_e (regions : Fin 9) (k : Nat) (n : Fin 8) : ((freePacr regions k)[n.val]).e = false := by
  simp only [freePacr, Vector.getElem_ofFn]
  split <;> rfl

theorem resetDone_enterHandler (s : State) :
    ResetDone s (enterHandler (s.mem.readWord s.cfg.endian 0) (resetFields s)) where
  psr := rfl
  mp := rfl
  regionsOff n := freePacr_e _ _ n
  iae := rfl
  idlyCnt := rfl
  runState := rfl
  window := rfl
  pc := rfl
  mem := rfl
  cfg := rfl
  inputs := rfl

/-- Where the word at address 0 may be fetched, a reset completes. -/
theorem resetMachine_of_readable {s : State} (hb : busError s.cfg .fetch 0 4 = false) (ht : inTcip s.cfg 0 4 = false) :
    ∃ t, resetMachine s = .next t ∧ ResetDone s t := by
  refine ⟨_, ?_, resetDone_enterHandler s⟩
  have hz : ((0 : BitVec 8).setWidth 32 <<< 2 : Word) = 0 := by decide
  simp only [resetMachine, vectorTo, vectorWord, hz, accessVerdict_resetFields hb ht]
  rfl

/-- Settles O13: no run state, mask or CHR.IAE stands before the reset in the boundary. -/
theorem resetIsTakenInAnyRunState : Obligations.ResetIsTakenInAnyRunState := by
  intro s rest hsup hin hb ht
  have hplan : boundaryPlan s.sample s.dropInput = .stop (resetMachine s.dropInput) := by
    rw [sample_of_cons hin]
    exact boundaryPlan_reset hsup
  obtain ⟨t, hnext, done⟩ := resetMachine_of_readable (s := s.dropInput) hb ht
  rw [dropInput_of_cons hin] at done
  exact ⟨t, (step_of_stop hplan).trans hnext, done⟩

/-- The key stands in bits 31:16 of the value written (10_state.md R74). -/
theorem isSoftResetWrite_of_key {s : State} {v : Word} (h : v.toNat / 2 ^ 16 = s.cfg.srstMagic.toNat) :
    isSoftResetWrite 31 0 v s = true := by
  have hkey : v.extractLsb' 16 16 = s.cfg.srstMagic := by
    apply BitVec.eq_of_toNat_eq
    rw [BitVec.extractLsb'_toNat, Nat.shiftRight_eq_div_pow, h]
    exact Nat.mod_eq_of_lt s.cfg.srstMagic.isLt
  simp [isSoftResetWrite, hkey]

theorem exec_mtcr32_of_key {s : State} {rx : BitVec 4} (hs : s.psr.s = true)
    (h : (s.reg rx).toNat / 2 ^ 16 = s.cfg.srstMagic.toNat) :
    exec (.mtcr32 rx 31 0) s = if s.psr.ee then resetMachine s else takeException .unrecoverable s :=
  (privileged_super hs).trans (if_pos (isSoftResetWrite_of_key h))

/-- Settles O56. -/
theorem softwareResetKeyResets : Obligations.SoftwareResetKeyResets := by
  intro s rx hs hkey
  have hexec := exec_mtcr32_of_key hs hkey
  refine ⟨fun hee hb ht => ?resets, fun hee hv => ?unrecoverable⟩
  case resets =>
    rw [if_pos hee] at hexec
    obtain ⟨t, hnext, done⟩ := resetMachine_of_readable hb ht
    exact ⟨t, hexec.trans hnext, done⟩
  case unrecoverable =>
    rw [hexec, hee, if_neg Bool.false_ne_true]
    have hv' : VectorReadable s (entryVector s 8) := by
      rw [entryVector, ite_self]
      exact hv
    exact raises_takeException (e := .unrecoverable) hv'

end Sys2Proof.Machine

/-! PROOFS. Alignment and protection of one access (20_memory.md sections 3 to 5). -/

namespace Sys2Proof.Machine

/-! Alignment with PSR.MM = 1 -/

theorem alignDown_alignDown (sz : Size) (a : Word) : alignDown sz (alignDown sz a) = alignDown sz a := by
  rw [alignDown, alignDown, BitVec.and_assoc, BitVec.and_self]

theorem effective_of_masked {s : State} (h : s.psr.mm = true) (sz : Size) (a : Word) :
    effective s sz a = .ok (alignDown sz a) := by
  simp [effective, h]

theorem load_of_masked {s : State} (h : s.psr.mm = true) (sz : Size) (a : Word) :
    load s sz a = loadAligned s sz (alignDown sz a) := by
  rw [load, effective_of_masked h, Res.andThen_ok]

theorem store_of_masked {s : State} (h : s.psr.mm = true) (sz : Size) (a v : Word) :
    store s sz a v = storeAligned s sz (alignDown sz a) v := by
  rw [store, effective_of_masked h, Res.andThen_ok]

theorem load_alignDown_of_masked {s : State} (h : s.psr.mm = true) (sz : Size) (a : Word) :
    load s sz a = load s sz (alignDown sz a) := by
  rw [load_of_masked h, load_of_masked h, alignDown_alignDown]

theorem store_alignDown_of_masked {s : State} (h : s.psr.mm = true) (sz : Size) (a v : Word) :
    store s sz a v = store s sz (alignDown sz a) v := by
  rw [store_of_masked h, store_of_masked h, alignDown_alignDown]

theorem loadAligned_ne_misaligned (s : State) (sz : Size) (a : Word) (t : State) :
    loadAligned s sz a ≠ .raise .misaligned t := by
  intro h
  obtain ⟨_, he, _⟩ := guardAccess_eq_raise (Res.map_eq_raise h)
  cases he

theorem storeAligned_ne_misaligned (s : State) (sz : Size) (a v : Word) (t : State) :
    storeAligned s sz a v ≠ .raise .misaligned t := by
  intro h
  obtain ⟨_, he, _⟩ := guardAccess_eq_raise (Res.map_eq_raise h)
  cases he

/-- Settles O28: with MM = 1 an access is the one at the address aligned down, which raises no misaligned exception. -/
theorem maskedMisalignmentAccessesTheAlignedDatum : Obligations.MaskedMisalignmentAccessesTheAlignedDatum := by
  intro s a v h
  refine ⟨load_alignDown_of_masked h .half a, load_alignDown_of_masked h .word a, store_alignDown_of_masked h .half a v,
    store_alignDown_of_masked h .word a v, fun sz t => ?_⟩
  rw [load_of_masked h, store_of_masked h]
  exact ⟨loadAligned_ne_misaligned _ _ _ _, storeAligned_ne_misaligned _ _ _ _ _⟩

/-! Regions -/

theorem toNat_start (p : Pacr) : p.start.toNat = p.base.toNat * 1024 := by
  rw [Pacr.start, BitVec.toNat_append, BitVec.toNat_zero, Nat.or_zero, Nat.shiftLeft_eq]

/-- A region contains the addresses of its own block of 2^(Size+1) bytes (20_memory.md R121). -/
theorem contains_eq_true_iff {p : Pacr} {a : Word} : p.contains a = true ↔
    a.toNat / 2 ^ (p.size.toNat + 1) = p.base.toNat * 1024 / 2 ^ (p.size.toNat + 1) := by
  rw [Pacr.contains, beq_iff_eq, ← BitVec.toNat_inj, BitVec.toNat_ushiftRight, BitVec.toNat_ushiftRight,
    Nat.shiftRight_eq_div_pow, Nat.shiftRight_eq_div_pow, toNat_start]

theorem reservedSize_eq_false {p : Pacr} (h : 9 ≤ p.size.toNat) : p.reservedSize = false := by
  rw [Pacr.reservedSize, decide_eq_false_iff_not]
  omega

/-- Where no region consulted matches, the search finds none. -/
theorem consult_of_misses {pacr : Vector Pacr 8} {a : Word} {order : List (Fin 8)}
    (h : ∀ n ∈ order, RegionMisses pacr[n.val] a) : consult pacr a order = .absent := by
  induction order with
  | nil => rfl
  | cons n rest ih =>
    have hrest := ih fun k hk => h k (List.mem_cons_of_mem n hk)
    rcases h n List.mem_cons_self with hoff | ⟨hsize, hout⟩
    · simp [consult, hoff, hrest]
    · have hc : (pacr[n.val]).contains a = false := Bool.eq_false_iff.mpr fun hc => hout (contains_eq_true_iff.mp hc)
      simp [consult, reservedSize_eq_false hsize, hc, hrest]

theorem lt_of_mem_regionOrder {regions : Fin 9} {n : Fin 8} (h : n ∈ regionOrder regions) : n.val < regions.val :=
  of_decide_eq_true (List.mem_filter.mp h).2

/-- With the MPU on, an address in no region is denied (20_memory.md R124). -/
theorem mpuVerdict_of_absent {s : State} {kind : AccessKind} {super : Bool} {a : Word} (hmp : s.mp = 1)
    (hr : s.cfg.mpuRegions ≠ 0) (h : consult s.pacr a (regionOrder s.cfg.mpuRegions) = .absent) :
    mpuVerdict s kind super a = .deny := by
  simp [mpuVerdict, hmp, hr, h]

/-! The verdict of a whole access -/

theorem busError_iff {c : Config} {kind : AccessKind} {a : Word} {n : Nat} :
    busError c kind a n = true ↔ BusAnswersError c kind a n := by
  simp only [busError_eq_true, touches_eq_true, BusAnswersError, Touches]

theorem inTcip_iff {c : Config} {a : Word} {n : Nat} : inTcip c a n = true ↔ InDeviceWindow c a n := by
  simp only [inTcip_eq_true, touches_eq_true, InDeviceWindow, Touches]

theorem accessVerdict_of_mpu_deny {s : State} {kind : AccessKind} {super : Bool} {a : Word} (n : Nat)
    (h : mpuVerdict s kind super a = .deny) : accessVerdict s kind super a n = .deny := by
  rw [accessVerdict, h]

theorem accessVerdict_of_mpu_refuse {s : State} {kind : AccessKind} {super : Bool} {a : Word} (n : Nat) {r : Refusal}
    (h : mpuVerdict s kind super a = .refuse r) : accessVerdict s kind super a n = .refuse r := by
  rw [accessVerdict, h]

/-- What the MPU permits is left to the bus, and after it to the device window. -/
theorem accessVerdict_of_mpu_permit {s : State} {kind : AccessKind} {super : Bool} {a : Word} (n : Nat)
    (h : mpuVerdict s kind super a = .permit) : accessVerdict s kind super a n =
      if busError s.cfg kind a n then .deny
      else if inTcip s.cfg a n then
        if !super && decide (kind ≠ .fetch) then .deny else .refuse .tcipDevice
      else .permit := by
  rw [accessVerdict, h]

/-- Settles O30: no region, no MPU, and the order of the checks of a whole access. -/
theorem noRegionDeniesAndNoMpuPermits : Obligations.NoRegionDeniesAndNoMpuPermits := by
  refine ⟨fun s kind super a hmp hr hmiss => ?noRegion, fun s kind super a hoff => mpuVerdict_off hoff,
    fun s kind super a n => ⟨accessVerdict_of_mpu_deny n, fun r => accessVerdict_of_mpu_refuse n, fun hp => ?afterMpu⟩⟩
  case noRegion =>
    exact mpuVerdict_of_absent hmp hr (consult_of_misses fun k hk => hmiss k (lt_of_mem_regionOrder hk))
  case afterMpu =>
    rw [accessVerdict_of_mpu_permit n hp, ← busError_iff, ← inTcip_iff]
    refine ⟨fun hb => if_pos hb, fun ht hu hk => ?_, fun hb ht hsup => ?_, fun hb ht => ?_⟩
    · simp [ht, hu, hk]
    · rw [if_neg hb, if_pos ht, if_neg]
      rcases hsup with hs | hk
      · simp [hs]
      · simp [hk]
    · rw [if_neg hb, if_neg ht]

end Sys2Proof.Machine

/-! PROOFS. Branches, jumps and the return from an exception (42_branch_jump.md, 44_privileged_special.md R347). -/

namespace Sys2Proof.Machine

/-- The sign-extended doubled offset is twice the signed offset (42_branch_jump.md R287). -/
theorem displacement_eq_ofInt {n : Nat} (hn : n ≠ 0) (offset : BitVec n) :
    displacement offset = BitVec.ofInt 32 (2 * offset.toInt) := by
  have h : (offset ++ 0#1).toInt = 2 * offset.toInt := by
    simp [BitVec.toInt_append, hn]
  rw [displacement, BitVec.signExtend, h]

/-- A taken branch changes the pc and empties the window. -/
theorem writesFlagAndPc_jump (s : State) (a : Word) :
    WritesFlagAndPc s.psr.c a { s with window := [] } (s.jump a) :=
  ⟨rfl, rfl, fun _ => rfl, fun _ => rfl, by constructor <;> rfl⟩

/-- An instruction that only goes on changes the pc alone. -/
theorem writesFlagAndPc_advance (s : State) (n : Word) : WritesFlagAndPc s.psr.c (s.pc + n) s (s.advance n) :=
  ⟨rfl, rfl, fun _ => rfl, fun _ => rfl, by constructor <;> rfl⟩

theorem writesFlagAndPc_branch {n : Nat} (hn : n ≠ 0) (offset : BitVec n) (s : State) :
    WritesFlagAndPc s.psr.c (s.pc + BitVec.ofInt 32 (2 * offset.toInt)) { s with window := [] }
      (s.jump (s.pc + displacement offset)) := by
  rw [← displacement_eq_ofInt hn]
  exact writesFlagAndPc_jump s _

theorem exec_bt16 (offset : BitVec 10) (s : State) : exec (.bt16 offset) s =
    .next (if s.psr.c then s.jump (s.pc + displacement offset) else s.advance 2) := rfl

theorem exec_bf16 (offset : BitVec 10) (s : State) : exec (.bf16 offset) s =
    .next (if s.psr.c then s.advance 2 else s.jump (s.pc + displacement offset)) := rfl

/-- Settles O38: a branch jumps or goes on, by C where it is conditional. -/
theorem branchResults : Obligations.BranchResults := by
  intro s
  have hjump := fun offset : BitVec 10 => writesFlagAndPc_branch (by decide) offset s
  have hgo := writesFlagAndPc_advance s 2
  refine ⟨fun offset => ⟨rfl, _, rfl, hjump offset⟩, fun offset => ⟨rfl, _, exec_bt16 offset s, ?bt16⟩,
    fun offset => ⟨rfl, _, exec_bf16 offset s, ?bf16⟩,
    fun offset => ⟨rfl, _, rfl, writesFlagAndPc_branch (by decide) offset s⟩⟩
  case bt16 =>
    cases hc : s.psr.c <;> rw [hc] at hjump hgo
    · exact hgo
    · exact hjump offset
  case bf16 =>
    cases hc : s.psr.c <;> rw [hc] at hjump hgo
    · exact hjump offset
    · exact hgo

/-- A jump that links writes r15 and the pc, and empties the window. -/
theorem linkAndJump_frame (s : State) (link a : Word) :
    ((s.setReg lr link).jump a).reg 15 = link ∧ (∀ k : Reg, k ≠ 15 → ((s.setReg lr link).jump a).reg k = s.reg k) ∧
      ((s.setReg lr link).jump a).psr.c = s.psr.c ∧
      (∀ x : Word, ((s.setReg lr link).jump a).mem.read x = s.mem.read x) ∧
      SameSystem { s with window := [] } ((s.setReg lr link).jump a) :=
  ⟨State.reg_setReg_same s lr link, fun k hk => State.reg_setReg_ne s lr k link hk, rfl, fun _ => rfl,
    by constructor <;> rfl⟩

/-- Settles O39: JSR16 reads its register in the state before the link is written. -/
theorem jumpAndLinkResults : Obligations.JumpAndLinkResults := by
  intro s
  refine ⟨fun rx => ⟨_, rfl, writesFlagAndPc_jump s _⟩, fun rx => ⟨_, rfl, rfl, linkAndJump_frame s _ _⟩,
    fun offset => ⟨_, rfl, ?_, linkAndJump_frame s _ _⟩⟩
  rw [← displacement_eq_ofInt (by decide)]
  rfl

/-- Settles O50. -/
theorem returnFromExceptionResults : Obligations.ReturnFromExceptionResults := by
  intro s hs
  exact ⟨returnFromException s, privileged_super hs, rfl, rfl, rfl, fun _ => rfl, fun _ => rfl, by constructor <;> rfl⟩

end Sys2Proof.Machine

/-! PROOFS. Words in memory: what a word read holds, and what stores of consecutive words leave (20_memory.md R101,
43_load_store.md R321, R322). -/

namespace Sys2Proof.Machine

theorem extractLsb'_append_byte_skip {m : Nat} (x : BitVec m) (b : Byte) (k : Nat) :
    (x ++ b).extractLsb' (k + 8) 8 = x.extractLsb' k 8 := by
  rw [BitVec.extractLsb'_append_eq_of_le (by omega), Nat.add_sub_cancel]

/-- The four bytes of a concatenation, from the low end. -/
theorem extractLsb'_append_bytes (b0 b1 b2 b3 : Byte) :
    (b3 ++ b2 ++ b1 ++ b0).extractLsb' 0 8 = b0 ∧ (b3 ++ b2 ++ b1 ++ b0).extractLsb' 8 8 = b1 ∧
      (b3 ++ b2 ++ b1 ++ b0).extractLsb' 16 8 = b2 ∧ (b3 ++ b2 ++ b1 ++ b0).extractLsb' 24 8 = b3 := by
  have skip := fun (m : Nat) (x : BitVec m) (b : Byte) (k : Nat) => extractLsb'_append_byte_skip x b k
  refine ⟨BitVec.extractLsb'_append_eq_right, ?_, ?_, ?_⟩
  · exact (skip _ _ _ 0).trans BitVec.extractLsb'_append_eq_right
  · exact (skip _ _ _ 8).trans ((skip _ _ _ 0).trans BitVec.extractLsb'_append_eq_right)
  · exact (skip _ _ _ 16).trans ((skip _ _ _ 8).trans ((skip _ _ _ 0).trans BitVec.extractLsb'_eq_self))

/-- Byte `k` of a word put together from four bytes is the one at offset `k`, in either byte order (20_memory.md R101). -/
theorem datumByte_joinWord (e : Endian) (b0 b1 b2 b3 : Byte) :
    datumByte e 4 (joinWord e b0 b1 b2 b3) 0 = b0 ∧ datumByte e 4 (joinWord e b0 b1 b2 b3) 1 = b1 ∧
      datumByte e 4 (joinWord e b0 b1 b2 b3) 2 = b2 ∧ datumByte e 4 (joinWord e b0 b1 b2 b3) 3 = b3 := by
  cases e with
  | little => exact extractLsb'_append_bytes b0 b1 b2 b3
  | big =>
    obtain ⟨h3, h2, h1, h0⟩ := extractLsb'_append_bytes b3 b2 b1 b0
    exact ⟨h0, h1, h2, h3⟩

/-- Byte `k` of a word taken apart, in either byte order. -/
theorem getElem?_wordBytes (e : Endian) (v : Word) {k : Nat} (hk : k < 4) :
    (wordBytes e v)[k]? = some (datumByte e 4 v k) := by
  cases e <;> interval_cases k <;> rfl

theorem length_wordBytes (e : Endian) (v : Word) : (wordBytes e v).length = 4 := by
  cases e <;> rfl

/-- What a word read gives is the datum of its bytes. -/
theorem wordStored_readWord (s : State) (a : Word) (k : Nat) :
    WordStored a k (s.mem.readWord s.cfg.endian (a + BitVec.ofNat 32 (4 * k))) s := by
  refine ⟨BitVec.isLt _, fun j hj => ?_⟩
  generalize a + BitVec.ofNat 32 (4 * k) = x
  obtain ⟨h0, h1, h2, h3⟩ := datumByte_joinWord s.cfg.endian (s.mem.read x) (s.mem.read (x + 1)) (s.mem.read (x + 2))
    (s.mem.read (x + 3))
  interval_cases j
  · exact (congrArg s.mem.read (BitVec.add_zero x)).trans h0.symm
  · exact h1.symm
  · exact h2.symm
  · exact h3.symm

/-! Consecutive words -/

theorem add_four_add (a : Word) (k : Nat) : a + 4 + BitVec.ofNat 32 (4 * k) = a + BitVec.ofNat 32 (4 * (k + 1)) := by
  bv_omega

theorem length_wordsAt (s : State) (a : Word) (n : Nat) : (wordsAt s a n).length = n := by
  induction n generalizing a with
  | zero => rfl
  | succ n ih => simp [wordsAt, ih]

/-- Word number `k` of those read from `a` on is the one at `a + 4 * k`. -/
theorem getElem_wordsAt (s : State) (a : Word) (n k : Nat) (hk : k < (wordsAt s a n).length) :
    (wordsAt s a n)[k] = s.mem.readWord s.cfg.endian (a + BitVec.ofNat 32 (4 * k)) := by
  induction n generalizing a k with
  | zero => exact absurd hk (Nat.not_lt_zero k)
  | succ n ih =>
    cases k with
    | zero => exact congrArg (s.mem.readWord s.cfg.endian) (BitVec.add_zero a).symm
    | succ k =>
      rw [← add_four_add]
      exact ih (a + 4) k (Nat.lt_of_succ_lt_succ hk)

/-- The words read one after the other are permitted when each of them is. -/
theorem wordsPermitted_iff {s : State} {kind : AccessKind} {a : Word} {n : Nat} :
    wordsPermitted s kind a n ↔ WordsPermitted s kind a n := by
  induction n generalizing a with
  | zero => exact iff_of_true trivial fun k hk => absurd hk (Nat.not_lt_zero k)
  | succ n ih =>
    rw [WordsPermitted, Nat.forall_lt_succ_left, Nat.mul_zero, BitVec.add_zero, wordsPermitted, ih, WordsPermitted]
    simp only [add_four_add]

theorem WordsPermitted.head {s : State} {kind : AccessKind} {a : Word} {n : Nat} (h : WordsPermitted s kind a (n + 1)) :
    accessVerdict s kind s.psr.s a 4 = .permit := (wordsPermitted_iff.mpr h).1

theorem WordsPermitted.tail {s : State} {kind : AccessKind} {a : Word} {n : Nat} (h : WordsPermitted s kind a (n + 1)) :
    WordsPermitted s kind (a + 4) n := wordsPermitted_iff.mp (wordsPermitted_iff.mpr h).2

theorem loadAligned_of_permit {s : State} {sz : Size} {a : Word}
    (h : accessVerdict s .read s.psr.s a sz.bytes = .permit) : loadAligned s sz a = .ok (readData s sz a) := by
  rw [loadAligned, guardAccess_of_permit h, Res.map_ok]

theorem loadAligned_of_deny {s : State} {sz : Size} {a : Word} (h : accessVerdict s .read s.psr.s a sz.bytes = .deny) :
    loadAligned s sz a = .raise .accessError s := by
  rw [loadAligned, guardAccess_of_deny h, Res.map_raise]

/-- A denied read among several raises the access error, whatever was read before it (43_load_store.md R323). -/
theorem loadWords_of_deny {s : State} {a : Word} {n j : Nat} (hj : j < n) (hp : WordsPermitted s .read a j)
    (hd : accessVerdict s .read s.psr.s (a + BitVec.ofNat 32 (4 * j)) 4 = .deny) :
    loadWords s a n = .raise .accessError s := by
  induction j generalizing a n with
  | zero =>
    obtain ⟨m, rfl⟩ := Nat.exists_eq_succ_of_ne_zero (Nat.ne_zero_of_lt hj)
    rw [Nat.mul_zero, BitVec.add_zero] at hd
    rw [loadWords, loadAligned_of_deny (sz := .word) hd, Res.andThen_raise]
  | succ j ih =>
    obtain ⟨m, rfl⟩ := Nat.exists_eq_succ_of_ne_zero (Nat.ne_zero_of_lt hj)
    rw [← add_four_add] at hd
    rw [loadWords, loadAligned_of_permit (sz := .word) hp.head, Res.andThen_ok,
      ih (Nat.lt_of_succ_lt_succ hj) hp.tail hd, Res.map_raise]

/-! Stores of consecutive words -/

theorem storeAligned_of_permit {s : State} {sz : Size} {a v : Word}
    (h : accessVerdict s .write s.psr.s a sz.bytes = .permit) : storeAligned s sz a v = .ok (writeData s sz a v) := by
  rw [storeAligned, guardAccess_of_permit h, Res.map_ok]

theorem storeAligned_of_deny {s : State} {sz : Size} {a v : Word}
    (h : accessVerdict s .write s.psr.s a sz.bytes = .deny) : storeAligned s sz a v = .raise .accessError s := by
  rw [storeAligned, guardAccess_of_deny h, Res.map_raise]

/-- A denied store keeps the stores made before it (43_load_store.md R323). -/
theorem storeWords_of_deny {s : State} {pre post : List (Word × Word)} {p : Word × Word}
    (hp : ∀ q ∈ pre, accessVerdict s .write s.psr.s q.1 4 = .permit)
    (hd : accessVerdict s .write s.psr.s p.1 4 = .deny) :
    storeWords s (pre ++ p :: post) = .raise .accessError (s.setMem (storeSlots s.cfg.endian s.mem pre)) := by
  induction pre generalizing s with
  | nil => rw [List.nil_append, storeWords, storeAligned_of_deny (sz := .word) hd, Res.andThen_raise]; rfl
  | cons q pre ih =>
    obtain ⟨hq, hpre⟩ := List.forall_mem_cons.mp hp
    rw [List.cons_append, storeWords, storeAligned_of_permit (sz := .word) hq, Res.andThen_ok]
    exact ih (s := writeData s .word q.1 q.2) hpre hd

theorem wordSlots_append (a : Word) (vs ws : List Word) :
    wordSlots a (vs ++ ws) = wordSlots a vs ++ wordSlots (a + BitVec.ofNat 32 (4 * vs.length)) ws := by
  induction vs generalizing a with
  | nil => rw [List.length_nil, Nat.mul_zero, BitVec.add_zero]; rfl
  | cons v vs ih => rw [List.cons_append, wordSlots, ih, add_four_add, List.length_cons]; rfl

/-- The slots stand at the consecutive word addresses. -/
theorem exists_index_of_mem_wordSlots {a : Word} {vs : List Word} {p : Word × Word} (h : p ∈ wordSlots a vs) :
    ∃ k < vs.length, p.1 = a + BitVec.ofNat 32 (4 * k) := by
  induction vs generalizing a with
  | nil => cases h
  | cons v vs ih =>
    rcases List.mem_cons.mp h with rfl | h
    · exact ⟨0, Nat.succ_pos _, (BitVec.add_zero a).symm⟩
    · obtain ⟨k, hk, he⟩ := ih h
      exact ⟨k + 1, Nat.succ_lt_succ hk, he.trans (add_four_add a k)⟩

theorem four_le_offset {a x : Word} {k n : Nat} (hk : k < n) (hx : 4 * n ≤ (x - a).toNat) :
    4 ≤ (x - (a + BitVec.ofNat 32 (4 * k))).toNat := by
  bv_omega

/-- Stores of consecutive words leave every byte outside them. -/
theorem memOnlyWords_storeSlots (s : State) (a : Word) (vs : List Word) :
    MemOnlyWords a vs.length s (s.setMem (storeSlots s.cfg.endian s.mem (wordSlots a vs))) := by
  intro x hx
  refine storeSlots_read_outside _ _ _ _ fun p hp => ?_
  obtain ⟨k, hk, he⟩ := exists_index_of_mem_wordSlots hp
  rw [he]
  exact four_le_offset hk hx

/-- A byte of a word that is followed by `n` other words in the address space is none of theirs. -/
theorem offset_past_word {a : Word} {j n : Nat} (hj : j < 4) (hn : 4 * (n + 1) ≤ 2 ^ 32) :
    4 * n ≤ (a + BitVec.ofNat 32 j - (a + 4)).toNat := by
  bv_omega

theorem offset_in_word {a : Word} {j : Nat} (hj : j < 4) : (a + BitVec.ofNat 32 j - a).toNat = j := by
  bv_omega

/-- Stores of consecutive words leave each of them in its place. -/
theorem read_storeSlots_wordSlots {m : Memory} (hm : m.wf = true) (e : Endian) {a : Word} {vs : List Word}
    (hl : 4 * vs.length ≤ 2 ^ 32) {k : Nat} (hk : k < vs.length) {j : Nat} (hj : j < 4) :
    (storeSlots e m (wordSlots a vs)).read (a + BitVec.ofNat 32 (4 * k) + BitVec.ofNat 32 j) =
      datumByte e 4 vs[k] j := by
  induction vs generalizing m a k with
  | nil => cases hk
  | cons v vs ih =>
    have hm' := Memory.wf_writeBytes hm a (wordBytes e v)
    rw [List.length_cons] at hl
    rw [wordSlots, storeSlots]
    cases k with
    | zero =>
      have hout : ∀ p ∈ wordSlots (a + 4) vs, 4 ≤ (a + BitVec.ofNat 32 j - p.1).toNat := by
        intro p hp
        obtain ⟨i, hi, he⟩ := exists_index_of_mem_wordSlots hp
        rw [he]
        exact four_le_offset hi (offset_past_word hj hl)
      rw [Nat.mul_zero, BitVec.add_zero, storeSlots_read_outside _ _ _ _ hout,
        Memory.read_writeBytes hm _ _ _ (by rw [length_wordBytes]; decide), offset_in_word hj,
        dif_pos (by rw [length_wordBytes]; exact hj), List.getElem_cons_zero]
      exact List.getElem_eq_iff _ |>.mpr (getElem?_wordBytes e v hj)
    | succ k =>
      rw [← add_four_add, List.getElem_cons_succ]
      exact ih hm' (by omega) (Nat.lt_of_succ_lt_succ hk)

theorem wordStored_storeSlots {s : State} (hm : s.mem.wf = true) {a : Word} {vs : List Word}
    (hl : 4 * vs.length ≤ 2 ^ 32) {k : Nat} (hk : k < vs.length) :
    WordStored a k vs[k] (s.setMem (storeSlots s.cfg.endian s.mem (wordSlots a vs))) :=
  ⟨BitVec.isLt _, fun _ hj => read_storeSlots_wordSlots hm _ hl hk hj⟩

end Sys2Proof.Machine

/-! PROOFS. Faults of loads, stores and the multi-access instructions (20_memory.md R103 to R107, 43_load_store.md R323,
44_privileged_special.md R348, R349). -/

namespace Sys2Proof.Machine

/-! One access -/

theorem effective_of_misaligned {s : State} {sz : Size} {a : Word} (h : misaligned sz a = true) (hm : s.psr.mm = false) :
    effective s sz a = .raise .misaligned s := by
  simp [effective, h, hm]

theorem effective_of_aligned {s : State} {sz : Size} {a : Word} (h : alignedOrMasked s sz a) :
    effective s sz a = .ok (alignDown sz a) := by
  rcases h with h | h <;> simp [effective, h]

/-- An operation that raises an exception before the end of its instruction makes the instruction take it. -/
theorem finish_map_of_raise {α : Type} {r : Res α} {f : α → State} {e : Exc} {u : State} (h : r = .raise e u) :
    finish (r.map f) = takeException e u := by
  rw [h]
  rfl

theorem loadTo_of_misaligned {s : State} {sz : Size} {a : Word} (n : Reg) (ilen : Word) (h : misaligned sz a = true)
    (hm : s.psr.mm = false) : loadTo n sz a ilen s = takeException .misaligned s := by
  refine finish_map_of_raise ?_
  rw [load, effective_of_misaligned h hm, Res.andThen_raise]

theorem storeFrom_of_misaligned {s : State} {sz : Size} {a : Word} (v ilen : Word) (h : misaligned sz a = true)
    (hm : s.psr.mm = false) : storeFrom v sz a ilen s = takeException .misaligned s := by
  refine finish_map_of_raise ?_
  rw [store, effective_of_misaligned h hm, Res.andThen_raise]

theorem loadTo_of_deny {s : State} {sz : Size} {a : Word} (n : Reg) (ilen : Word) (h : alignedOrMasked s sz a)
    (hd : accessVerdict s .read s.psr.s (alignDown sz a) sz.bytes = .deny) :
    loadTo n sz a ilen s = takeException .accessError s := by
  refine finish_map_of_raise ?_
  rw [load, effective_of_aligned h, Res.andThen_ok, loadAligned_of_deny hd]

theorem storeFrom_of_deny {s : State} {sz : Size} {a : Word} (v ilen : Word) (h : alignedOrMasked s sz a)
    (hd : accessVerdict s .write s.psr.s (alignDown sz a) sz.bytes = .deny) :
    storeFrom v sz a ilen s = takeException .accessError s := by
  refine finish_map_of_raise ?_
  rw [store, effective_of_aligned h, Res.andThen_ok, storeAligned_of_deny hd]

/-- An instruction with one data access is a load to a register or a store of a value, at the address of the access. -/
theorem exec_of_dataAccess {i : Instr} {s : State} {kind : AccessKind} {sz : Size} {a : Word}
    (h : dataAccess i s = some (kind, sz, a)) :
    (kind = .read ∧ ∃ n ilen, exec i s = loadTo n sz a ilen s) ∨
      (kind = .write ∧ ∃ v ilen, exec i s = storeFrom v sz a ilen s) := by
  cases i
  case ld16b | ld16h | ld16w | ld16wSp | ld32b | ld32h | ld32w | lrw16 | lrw32 =>
    cases h
    exact .inl ⟨rfl, _, _, rfl⟩
  case st16b | st16h | st16w | st16wSp | st32b | st32h | st32w =>
    cases h
    exact .inr ⟨rfl, _, _, rfl⟩
  all_goals cases h

theorem exec_of_misaligned_dataAccess {i : Instr} {s : State} {kind : AccessKind} {sz : Size} {a : Word}
    (h : dataAccess i s = some (kind, sz, a)) (ha : misaligned sz a = true) (hm : s.psr.mm = false) :
    exec i s = takeException .misaligned s := by
  rcases exec_of_dataAccess h with ⟨_, n, ilen, he⟩ | ⟨_, v, ilen, he⟩
  · exact he.trans (loadTo_of_misaligned n ilen ha hm)
  · exact he.trans (storeFrom_of_misaligned v ilen ha hm)

theorem exec_of_denied_dataAccess {i : Instr} {s : State} {kind : AccessKind} {sz : Size} {a : Word}
    (h : dataAccess i s = some (kind, sz, a)) (ha : alignedOrMasked s sz a)
    (hd : accessVerdict s kind s.psr.s (alignDown sz a) sz.bytes = .deny) :
    exec i s = takeException .accessError s := by
  rcases exec_of_dataAccess h with ⟨rfl, n, ilen, he⟩ | ⟨rfl, v, ilen, he⟩
  · exact he.trans (loadTo_of_deny n ilen ha hd)
  · exact he.trans (storeFrom_of_deny v ilen ha hd)

/-! The alignment of SP -/

theorem misaligned_word_eq_false_iff (a : Word) : misaligned .word a = false ↔ a.toNat % 4 = 0 := by
  rw [misaligned, bne_eq_false_iff_eq, ← BitVec.toNat_inj, BitVec.toNat_and]
  exact Eq.congr_left (Nat.and_two_pow_sub_one_eq_mod a.toNat 2)

theorem alignedSp_of_aligned {s : State} (h : (s.reg sp).toNat % 4 = 0) : alignedSp s = .ok () := by
  rw [alignedSp, (misaligned_word_eq_false_iff _).mpr h]
  rfl

theorem alignedSp_of_misaligned {s : State} (h : (s.reg sp).toNat % 4 ≠ 0) : alignedSp s = .raise .misaligned s := by
  refine if_pos (Bool.not_eq_false _ ▸ fun hf => h ((misaligned_word_eq_false_iff _).mp hf))

theorem pushRegs_of_misaligned {s : State} (rs : List Reg) (h : (s.reg sp).toNat % 4 ≠ 0) :
    pushRegs rs s = .raise .misaligned s := by
  rw [pushRegs, alignedSp_of_misaligned h]
  rfl

theorem popRegs_of_misaligned {s : State} (rs : List Reg) (h : (s.reg sp).toNat % 4 ≠ 0) :
    popRegs rs s = .raise .misaligned s := by
  rw [popRegs, alignedSp_of_misaligned h]
  rfl

/-- A multi-access instruction that is executed checks SP before anything else (20_memory.md R107). -/
theorem exec_multiAccess_of_misaligned {i : Instr} {s : State} (hi : isMultiAccess i = true)
    (hs : isPrivileged i = true → s.psr.s = true) (h : (s.reg sp).toNat % 4 ≠ 0) :
    exec i s = takeException .misaligned s := by
  cases i
  case push16 | push16List8 | ipush16 => exact finish_map_of_raise (pushRegs_of_misaligned _ h)
  case pop16 | pop16List8 | ipop16 => exact finish_map_of_raise (popRegs_of_misaligned _ h)
  case nie16 | nir16 =>
    refine (privileged_super (hs rfl)).trans ?_
    rw [alignedSp_of_misaligned h]
    rfl
  all_goals exact absurd hi Bool.false_ne_true

/-- Settles O47. -/
theorem misalignedStackPointerTraps : Obligations.MisalignedStackPointerTraps := by
  intro i s hi hs h hv
  rw [exec_multiAccess_of_misaligned hi hs h]
  exact raises_takeException (e := .misaligned) hv

/-! The register lists -/

theorem length_savedRegs (n : Nat) : (savedRegs n).length = n := by
  simp [savedRegs]

theorem getElem_savedRegs (n k : Nat) (hk : k < (savedRegs n).length) : (savedRegs n)[k] = BitVec.ofNat 4 (4 + k) := by
  simp [savedRegs]

theorem length_regList (r15 : BitVec 1) (n : Nat) : (regList r15 n).length = n + r15.toNat := by
  have h : (if r15 = 1 then [lr] else []).length = r15.toNat := by revert r15; decide
  rw [regList, List.length_append, length_savedRegs, h]

/-- Register number `k` of the list is r(4+k) (43_load_store.md R320). -/
theorem getElem_regList {r15 : BitVec 1} {n k : Nat} (hk : k < n) (hl : k < (regList r15 n).length) :
    (regList r15 n)[k] = BitVec.ofNat 4 (4 + k) := by
  simp only [regList]
  rw [List.getElem_append_left (by rwa [length_savedRegs]), getElem_savedRegs]

/-- How many words the instruction reads is the length of its register list. -/
theorem stackLoads_cases {i : Instr} {s : State} {n : Nat} (h : stackLoads i = some n)
    (hs : isPrivileged i = true → s.psr.s = true) :
    (∃ (rs : List Reg) (k : State → State), rs.length = n ∧ exec i s = finish ((popRegs rs s).map k)) ∨
      (n = 2 ∧ s.psr.s = true ∧ i = .nir16) := by
  cases i
  case pop16 r15 list1 => cases h; exact .inl ⟨_, _, length_regList r15 _, rfl⟩
  case pop16List8 r15 => cases h; exact .inl ⟨_, _, length_regList r15 8, rfl⟩
  case ipop16 => cases h; exact .inl ⟨interruptRegs, _, rfl, rfl⟩
  case nir16 => cases h; exact .inr ⟨rfl, hs rfl, rfl⟩
  all_goals cases h

/-! Denied reads -/

theorem popRegs_of_deny {s : State} {rs : List Reg} {j : Nat} (ha : (s.reg sp).toNat % 4 = 0) (hj : j < rs.length)
    (hp : WordsPermitted s .read (s.reg sp) j)
    (hd : accessVerdict s .read s.psr.s (s.reg sp + BitVec.ofNat 32 (4 * j)) 4 = .deny) :
    popRegs rs s = .raise .accessError s := by
  rw [popRegs, alignedSp_of_aligned ha, Res.andThen_ok, loadWords_of_deny hj hp hd, Res.map_raise]

/-- NIR16 in supervisor mode with SP aligned is the two reads and the return (44_privileged_special.md R349). -/
theorem exec_nir16 {s : State} (hs : s.psr.s = true) (ha : (s.reg sp).toNat % 4 = 0) :
    exec .nir16 s = finish ((loadWords s (s.reg sp) 2).map fun vs =>
      returnFromException ((nestRestore s vs).setReg sp (s.reg sp + 8))) := by
  refine (privileged_super hs).trans ?_
  rw [alignedSp_of_aligned ha]
  rfl

/-- A denied read of a multi-access load makes it take the access error (43_load_store.md R323). -/
theorem exec_stackLoads_of_deny {i : Instr} {s : State} {n j : Nat} (h : stackLoads i = some n)
    (hs : isPrivileged i = true → s.psr.s = true) (ha : (s.reg sp).toNat % 4 = 0) (hj : j < n)
    (hp : WordsPermitted s .read (s.reg sp) j)
    (hd : accessVerdict s .read s.psr.s (s.reg sp + BitVec.ofNat 32 (4 * j)) 4 = .deny) :
    exec i s = takeException .accessError s := by
  rcases stackLoads_cases h hs with ⟨rs, k, rfl, he⟩ | ⟨rfl, hsup, rfl⟩
  · exact he.trans (finish_map_of_raise (popRegs_of_deny ha hj hp hd))
  · exact (exec_nir16 hsup ha).trans (finish_map_of_raise (loadWords_of_deny hj hp hd))

/-- Settles O42: a faulting access is nothing but its exception, in the state as it was. -/
theorem faultingAccessTraps : Obligations.FaultingAccessTraps := by
  refine ⟨fun i s kind sz a h => ⟨fun ha hm hv => ?misaligned, fun ha hd hv => ?denied⟩,
    fun i s n j h hs ha hj hp hd hv => ?stackRead⟩
  case misaligned =>
    rw [exec_of_misaligned_dataAccess h ha hm]
    exact raises_takeException (e := .misaligned) hv
  case denied =>
    rw [exec_of_denied_dataAccess h ha hd]
    exact raises_takeException (e := .accessError) hv
  case stackRead =>
    rw [exec_stackLoads_of_deny h hs ha hj hp hd]
    exact raises_takeException (e := .accessError) hv

/-! Denied stores -/

/-- PUSH16, IPUSH16 with a denied store: the words before it are in their places, nothing else has changed. -/
theorem pushRegs_of_deny {s : State} {rs : List Reg} {j : Nat} (hwf : s.mem.wf = true)
    (hl : 4 * rs.length ≤ 2 ^ 32) (ha : (s.reg sp).toNat % 4 = 0) (hj : j < rs.length)
    (hp : WordsPermitted s .write (s.reg sp - BitVec.ofNat 32 (4 * rs.length)) j)
    (hd : accessVerdict s .write s.psr.s
      (s.reg sp - BitVec.ofNat 32 (4 * rs.length) + BitVec.ofNat 32 (4 * j)) 4 = .deny) :
    ∃ m : Memory, pushRegs rs s = .raise .accessError (s.setMem m) ∧
      (∀ (k : Nat) (hk : k < j), WordStored (s.reg sp - BitVec.ofNat 32 (4 * rs.length)) k
        (s.reg (rs[k]'(hk.trans hj))) (s.setMem m)) ∧
      MemOnlyWords (s.reg sp - BitVec.ofNat 32 (4 * rs.length)) j s (s.setMem m) := by
  generalize hbase : s.reg sp - BitVec.ofNat 32 (4 * rs.length) = base at hp hd ⊢
  have hlen : ((rs.take j).map s.reg).length = j := by simp [hj.le]
  have hslots : wordSlots base (rs.map s.reg) = wordSlots base ((rs.take j).map s.reg) ++
      (base + BitVec.ofNat 32 (4 * j), s.reg rs[j]) ::
        wordSlots (base + BitVec.ofNat 32 (4 * j) + 4) ((rs.drop (j + 1)).map s.reg) := by
    conv_lhs => rw [← List.take_append_drop j rs, List.drop_eq_getElem_cons hj, List.map_append, wordSlots_append, hlen]
    rfl
  have hpre : ∀ p ∈ wordSlots base ((rs.take j).map s.reg), accessVerdict s .write s.psr.s p.1 4 = .permit := by
    intro p hmem
    obtain ⟨k, hk, he⟩ := exists_index_of_mem_wordSlots hmem
    rw [he]
    exact hp k (hlen ▸ hk)
  refine ⟨storeSlots s.cfg.endian s.mem (wordSlots base ((rs.take j).map s.reg)), ?_, fun k hk => ?_, ?_⟩
  · rw [pushRegs, alignedSp_of_aligned ha, Res.andThen_ok, hbase, hslots, storeWords_of_deny hpre hd, Res.map_raise]
  · have hstored := wordStored_storeSlots hwf (a := base) (vs := (rs.take j).map s.reg) (k := k)
      (by rw [hlen]; omega) (by rwa [hlen])
    simpa using hstored
  · have hout := memOnlyWords_storeSlots s base ((rs.take j).map s.reg)
    rwa [hlen] at hout

/-- The two forms of PUSH16 push their register list. -/
theorem exec_push16_of_form {i : Instr} {r15 : BitVec 1} {n : Nat}
    (h : (∃ list1 : BitVec 3, i = .push16 r15 list1 ∧ n = list1.toNat) ∨ (i = .push16List8 r15 ∧ n = 8)) (s : State) :
    n ≤ 8 ∧ exec i s = finish ((pushRegs (regList r15 n) s).map fun t => t.advance 2) := by
  rcases h with ⟨list1, rfl, rfl⟩ | ⟨rfl, rfl⟩
  · exact ⟨list1.isLt.le, rfl⟩
  · exact ⟨le_rfl, rfl⟩

/-- NIE16 in supervisor mode with SP aligned whose stores raise an exception takes it. -/
theorem exec_nie16_of_raise {s u : State} {e : Exc} (hs : s.psr.s = true) (ha : (s.reg sp).toNat % 4 = 0)
    (h : storeWords s (nieSlots s) = .raise e u) : exec .nie16 s = takeException e u := by
  refine (privileged_super hs).trans ?_
  rw [alignedSp_of_aligned ha]
  exact finish_map_of_raise h

/-- The registers of IPUSH16 before the last: r0 to r3, and r12, which reads 0. -/
theorem reg_interruptRegs (s : State) {k : Nat} (hk : k < 5) (hl : k < interruptRegs.length) :
    s.reg interruptRegs[k] = if k < 4 then s.reg (BitVec.ofNat 4 k) else 0 := by
  interval_cases k <;> rfl

/-- Settles O46: the exception is raised in the state that holds the stores made before the denied one. -/
theorem pushFaultKeepsEarlierStores : Obligations.PushFaultKeepsEarlierStores := by
  refine ⟨fun s r15 n j i hform hwf ha hj hp hd hv => ?push, fun s j hwf ha hj hp hd hv => ?ipush,
    fun s hs hwf ha hv => ⟨fun hd => ?nieFirst, fun hp hd => ?nieSecond⟩⟩
  case push =>
    obtain ⟨hn, hexec⟩ := exec_push16_of_form hform s
    have hr15 := r15.isLt
    rw [← length_regList] at hj hp hd ⊢
    obtain ⟨m, hraise, hstored, hout⟩ := pushRegs_of_deny hwf (by rw [length_regList]; omega) ha hj hp hd
    rw [hexec, finish_map_of_raise hraise]
    refine ⟨m, raises_takeException (e := .accessError) (s := s.setMem m) hv, fun k hk => ?_, hout⟩
    rw [length_regList] at hj
    rw [← getElem_regList (r15 := r15) (n := n) (by omega)]
    exact hstored k hk
  case ipush =>
    obtain ⟨m, hraise, hstored, hout⟩ := pushRegs_of_deny (rs := interruptRegs) hwf (by decide) ha hj hp hd
    refine ⟨m, ?_, fun k hk => ?_, hout⟩
    · rw [show exec .ipush16 s = takeException .accessError (s.setMem m) from finish_map_of_raise hraise]
      exact raises_takeException (e := .accessError) (s := s.setMem m) hv
    · rw [← reg_interruptRegs s (by omega) (hk.trans hj)]
      exact hstored k hk
  case nieFirst =>
    rw [exec_nie16_of_raise hs ha (storeWords_of_deny (pre := []) (fun _ h => nomatch h) hd)]
    exact raises_takeException (e := .accessError) hv
  case nieSecond =>
    have hpre : ∀ q ∈ wordSlots (s.reg sp - 4) [s.epc], accessVerdict s .write s.psr.s q.1 4 = .permit :=
      List.forall_mem_singleton.mpr hp
    have hraise := storeWords_of_deny (post := []) (p := (s.reg sp - 8, s.epsr.image)) hpre hd
    refine ⟨storeSlots s.cfg.endian s.mem (wordSlots (s.reg sp - 4) [s.epc]), ?_,
      wordStored_storeSlots hwf (vs := [s.epc]) (show 4 * 1 ≤ 2 ^ 32 by decide) Nat.zero_lt_one,
      memOnlyWords_storeSlots s _ [s.epc]⟩
    rw [exec_nie16_of_raise hs ha hraise]
    exact raises_takeException (e := .accessError) (s := s.setMem _) hv

end Sys2Proof.Machine

/-! PROOFS. POP16 and NIR16 where every word may be read (43_load_store.md R322, 44_privileged_special.md R349). -/

namespace Sys2Proof.Machine

/-! Registers loaded from a list -/

theorem mem_setRegs (s : State) (ns : List Reg) (vs : List Word) : (setRegs s ns vs).mem = s.mem := by
  obtain ⟨r, hr⟩ := setRegs_eq s ns vs
  rw [hr]

theorem psr_setRegs (s : State) (ns : List Reg) (vs : List Word) : (setRegs s ns vs).psr = s.psr := by
  obtain ⟨r, hr⟩ := setRegs_eq s ns vs
  rw [hr]

/-- Loading registers and jumping changes nothing of the system but the window. -/
theorem sameSystem_setRegs_jump (s : State) (ns : List Reg) (vs : List Word) (n : Reg) (v a : Word) :
    SameSystem { s with window := [] } (((setRegs s ns vs).setReg n v).jump a) := by
  obtain ⟨r, hr⟩ := setRegs_eq s ns vs
  rw [hr]
  constructor <;> rfl

/-! The register list of POP16 -/

theorem nodup_regList {n : Nat} (hn : n ≤ 8) (r15 : BitVec 1) : (regList r15 n).Nodup := by
  revert r15
  interval_cases n <;> decide

/-- SP is in no register list. -/
theorem sp_not_mem_regList {n : Nat} (hn : n ≤ 8) (r15 : BitVec 1) : sp ∉ regList r15 n := by
  revert r15
  interval_cases n <;> decide

/-- A register of the list is one of r4 to r(3+n), or r15 (43_load_store.md R320). -/
theorem range_of_mem_regList {n : Nat} (hn : n ≤ 8) {r15 : BitVec 1} {k : Reg} (h : k ∈ regList r15 n) :
    (4 ≤ k.toNat ∧ k.toNat < 4 + n) ∨ (k = lr ∧ r15 = 1) := by
  rcases List.mem_append.mp h with h | h
  · obtain ⟨j, hj, rfl⟩ := List.mem_map.mp h
    have := List.mem_range.mp hj
    refine .inl ?_
    rw [BitVec.toNat_ofNat]
    omega
  · split at h
    next h1 => exact .inr ⟨List.mem_singleton.mp h, h1⟩
    next => cases h

/-- r15 stands last in the list (43_load_store.md R320). -/
theorem getElem_regList_last {n : Nat} (hl : n < (regList 1 n).length) : (regList 1 n)[n] = lr := by
  have hs : (savedRegs n).length ≤ n := (length_savedRegs n).le
  simp only [regList]
  rw [List.getElem_append_right hs]
  simp [length_savedRegs]

/-- Of r4 to r11, r9 to r11 are not implemented. -/
theorem implementedReg_saved {k : Nat} (hk : k < 8) :
    implementedReg (BitVec.ofNat 4 (4 + k)) = !decide (9 ≤ 4 + k) := by
  interval_cases k <;> rfl

/-! POP16 -/

/-- The state after the loads of POP16 and the rise of SP, before the jump. -/
def popped (s : State) (rs : List Reg) : State :=
  (setRegs s rs (wordsAt s (s.reg sp) rs.length)).setReg sp (s.reg sp + BitVec.ofNat 32 (4 * rs.length))

theorem popRegs_of_permit {s : State} {rs : List Reg} (ha : (s.reg sp).toNat % 4 = 0)
    (hp : WordsPermitted s .read (s.reg sp) rs.length) : popRegs rs s = .ok (popped s rs) :=
  popRegs_eq_ok.mpr ⟨(misaligned_word_eq_false_iff _).mpr ha, wordsPermitted_iff.mpr hp, rfl⟩

theorem reg_popped_sp (s : State) (rs : List Reg) :
    (popped s rs).reg sp = s.reg sp + BitVec.ofNat 32 (4 * rs.length) := State.reg_setReg_same _ _ _

/-- A register that is neither in the list nor SP keeps its value. -/
theorem reg_popped_of_not_mem {s : State} {rs : List Reg} {k : Reg} (hk : k ∉ rs) (hsp : k ≠ sp) :
    (popped s rs).reg k = s.reg k := by
  rw [popped, State.reg_setReg_ne _ _ _ _ hsp, setRegs_reg_of_not_mem _ _ _ _ hk]

/-- Register number `j` of the list holds word number `j` from SP, where it is implemented. -/
theorem reg_popped_getElem {s : State} {rs : List Reg} (hn : rs.Nodup) (hsp : sp ∉ rs) {j : Nat} (hj : j < rs.length) :
    (popped s rs).reg rs[j] = if implementedReg rs[j]
      then s.mem.readWord s.cfg.endian (s.reg sp + BitVec.ofNat 32 (4 * j)) else 0 := by
  have hne : rs[j] ≠ sp := fun he => hsp (he ▸ List.getElem_mem hj)
  rw [popped, State.reg_setReg_ne _ _ _ _ hne, setRegs_reg _ _ _ hn j hj (length_wordsAt ..), getElem_wordsAt]

/-- The two forms of POP16 pop their register list and jump to r15. -/
theorem exec_pop16_of_form {i : Instr} {r15 : BitVec 1} {n : Nat}
    (h : (∃ list1 : BitVec 3, i = .pop16 r15 list1 ∧ n = list1.toNat) ∨ (i = .pop16List8 r15 ∧ n = 8)) (s : State) :
    n ≤ 8 ∧ exec i s = finish ((popRegs (regList r15 n) s).map fun t => t.jump (evenAddr (t.reg lr))) := by
  rcases h with ⟨list1, rfl, rfl⟩ | ⟨rfl, rfl⟩
  · exact ⟨list1.isLt.le, rfl⟩
  · exact ⟨le_rfl, rfl⟩

/-- Settles O44: the jump changes no register, so each register is what the loads and the rise of SP left in it. -/
theorem popResults : Obligations.PopResults := by
  intro s r15 n i hform ha hp
  obtain ⟨hn, hexec⟩ := exec_pop16_of_form hform s
  rw [← length_regList] at hp ⊢
  have hreg := fun j (hj : j < (regList r15 n).length) =>
    reg_popped_getElem (s := s) (nodup_regList hn r15) (sp_not_mem_regList hn r15) hj
  have hlen := length_regList r15 n
  rw [popRegs_of_permit ha hp] at hexec
  refine ⟨_, hexec, fun k hk => ⟨_, wordStored_readWord s _ k, ?saved⟩, fun h1 => ?linkLoaded, fun h0 => ?linkKept,
    fun k hk hsp hlr => ?others, reg_popped_sp s _, rfl, ?flag, fun a => ?memory, sameSystem_setRegs_jump ..⟩
  case saved =>
    have hk' : k < (regList r15 n).length := by omega
    have h := hreg k hk'
    rw [getElem_regList hk, implementedReg_saved (hk.trans_le hn)] at h
    rw [State.reg_jump, h]
    by_cases h9 : 9 ≤ 4 + k
    · rw [if_pos h9, if_neg (by simp [h9])]
    · rw [if_neg h9, if_pos (by simp [h9])]
      rfl
  case linkLoaded =>
    subst h1
    have hn' : n < (regList 1 n).length := by rw [hlen]; exact Nat.lt_succ_self n
    have h := hreg n hn'
    rw [getElem_regList_last hn', implementedReg_lr, if_pos rfl] at h
    rw [show (15 : Reg) = lr from rfl, State.reg_jump, h]
    exact wordStored_readWord s _ n
  case linkKept =>
    refine reg_popped_of_not_mem (fun hmem => ?_) (by decide)
    rcases range_of_mem_regList hn hmem with ⟨_, h⟩ | ⟨_, h1⟩
    · exact absurd (show 15 < 4 + n from h) (by omega)
    · exact absurd (h0.symm.trans h1) (by decide)
  case others =>
    refine reg_popped_of_not_mem (fun hmem => ?_) hsp
    rcases range_of_mem_regList hn hmem with ⟨h4, hlt⟩ | ⟨h, _⟩
    · omega
    · exact hlr h
  case flag => exact congrArg Psr.c (psr_setRegs s _ _)
  case memory => exact congrArg (fun m : Memory => m.read a) (mem_setRegs s _ _)

/-! NIR16 -/

/-- The state after NIR16 reads the words `w0` and `w1` (44_privileged_special.md R349). -/
def nestReturned (s : State) (w0 w1 : Word) : State :=
  returnFromException (State.setReg { s with epsr := Psr.ofImage w0, epc := w1 } sp (s.reg sp + 8))

theorem exec_nir16_of_permit {s : State} (hs : s.psr.s = true) (ha : (s.reg sp).toNat % 4 = 0)
    (hp : WordsPermitted s .read (s.reg sp) 2) :
    exec .nir16 s = .next (nestReturned s (s.mem.readWord s.cfg.endian (s.reg sp + BitVec.ofNat 32 (4 * 0)))
      (s.mem.readWord s.cfg.endian (s.reg sp + BitVec.ofNat 32 (4 * 1)))) := by
  rw [exec_nir16 hs ha, loadWords_eq_ok.mpr ⟨wordsPermitted_iff.mpr hp, rfl⟩, Nat.mul_zero, BitVec.add_zero]
  rfl

theorem reg_nestReturned_sp (s : State) (w0 w1 : Word) : (nestReturned s w0 w1).reg sp = s.reg sp + 8 :=
  State.reg_setReg_same { s with epsr := Psr.ofImage w0, epc := w1 } sp (s.reg sp + 8)

theorem reg_nestReturned_ne (s : State) (w0 w1 : Word) {k : Reg} (hk : k ≠ sp) :
    (nestReturned s w0 w1).reg k = s.reg k :=
  State.reg_setReg_ne { s with epsr := Psr.ofImage w0, epc := w1 } sp k (s.reg sp + 8) hk

/-- Settles O49: the two words read go to EPSR and EPC, and the return is made from there. -/
theorem nestReturnResults : Obligations.NestReturnResults := by
  intro s hs ha hp
  refine ⟨_, _, wordStored_readWord s (s.reg sp) 0, wordStored_readWord s (s.reg sp) 1, _,
    exec_nir16_of_permit hs ha hp, rfl, rfl, rfl, rfl, rfl, reg_nestReturned_sp s _ _,
    fun k hk => reg_nestReturned_ne s _ _ hk, fun _ => rfl, ?system⟩
  case system => constructor <;> rfl

end Sys2Proof.Machine

/-! PROOFS. The add, subtract, logic and shift instructions (40_arith_logic_shift.md): what they leave, and the words they
write. -/

namespace Sys2Proof.Machine

/-! The frame of a data instruction -/

/-- What ADDC16 and SUBC16 leave: the register, C and the pc (40_arith_logic_shift.md R213, R214). -/
theorem writesReg_setReg_setC (n : Reg) (v ilen : Word) (c : Bool) (s : State) :
    WritesReg n v c ilen s (((s.setC c).setReg n v).advance ilen) :=
  ⟨State.reg_setReg_same (s.setC c) n v, fun k hk => State.reg_setReg_ne (s.setC c) n k v hk, rfl, rfl, fun _ => rfl,
    by constructor <;> rfl⟩

/-- An instruction that writes C and one register. -/
theorem completes_writeBack_setC {i : Instr} {s : State} {n : Reg} {v w ilen : Word} {b c : Bool}
    (hexec : exec i s = writeBack n v ilen (s.setC b)) (hv : v = w) (hb : b = c) :
    Completes i s (WritesReg n w c ilen s) := by
  subst hv hb
  exact ⟨_, hexec, writesReg_setReg_setC n v ilen b s⟩

/-- An instruction that writes one register alone: C is written with the value it has. -/
theorem completes_writeBack {i : Instr} {s : State} {n : Reg} {v w ilen : Word}
    (hexec : exec i s = writeBack n v ilen s) (hv : v = w) : Completes i s (WritesReg n w s.psr.c ilen s) :=
  completes_writeBack_setC (b := s.psr.c) hexec hv rfl

/-! Immediates -/

theorem biased_eq_ofNat {n : Nat} (imm : BitVec n) : biased imm = BitVec.ofNat 32 (imm.toNat + 1) := by
  rw [biased, BitVec.ofNat_add, BitVec.ofNat_toNat]
  rfl

theorem scaled4_eq_ofNat {n : Nat} (imm : BitVec n) : scaled4 imm = BitVec.ofNat 32 (4 * imm.toNat) := by
  rw [scaled4, BitVec.shiftLeft_eq_mul_twoPow, BitVec.ofNat_mul, BitVec.ofNat_toNat, BitVec.mul_comm]
  rfl

/-- IMM7 of the SP forms is IMM2 and IMM5 side by side (40_arith_logic_shift.md R206, R212). -/
theorem toNat_imm2_append_imm5 (imm2 : BitVec 2) (imm5 : BitVec 5) :
    (imm2 ++ imm5 : BitVec 7).toNat = 32 * imm2.toNat + imm5.toNat := by
  rw [BitVec.toNat_append, ← Nat.shiftLeft_add_eq_or_of_lt imm5.isLt, Nat.shiftLeft_eq, Nat.mul_comm]

/-! Sums and differences modulo 2^32 -/

theorem add_ofNat_eq (a : Word) (k : Nat) : a + BitVec.ofNat 32 k = BitVec.ofNat 32 (a.toNat + k) := by
  rw [BitVec.ofNat_add, BitVec.ofNat_toNat, BitVec.setWidth_eq]

theorem add_eq_ofNat (a b : Word) : a + b = BitVec.ofNat 32 (a.toNat + b.toNat) := by
  rw [← add_ofNat_eq, BitVec.ofNat_toNat, BitVec.setWidth_eq]

theorem sub_ofInt_eq (a : Word) (k : Int) : a - BitVec.ofInt 32 k = BitVec.ofInt 32 (a.toInt - k) := by
  rw [Int.sub_eq_add_neg, BitVec.ofInt_add, BitVec.ofInt_toInt, BitVec.ofInt_neg, BitVec.sub_eq_add_neg]

theorem sub_eq_ofInt (a b : Word) : a - b = BitVec.ofInt 32 (a.toInt - b.toInt) := by
  rw [← sub_ofInt_eq, BitVec.ofInt_toInt]

theorem add_biased {n : Nat} (a : Word) (imm : BitVec n) : a + biased imm = BitVec.ofNat 32 (a.toNat + (imm.toNat + 1)) := by
  rw [biased_eq_ofNat, add_ofNat_eq]

theorem sub_biased {n : Nat} (a : Word) (imm : BitVec n) : a - biased imm = BitVec.ofInt 32 (a.toInt - (imm.toNat + 1)) := by
  rw [biased_eq_ofNat, ← BitVec.ofInt_natCast, sub_ofInt_eq, Int.natCast_succ]

theorem add_scaled4 {n : Nat} (a : Word) (imm : BitVec n) : a + scaled4 imm = BitVec.ofNat 32 (a.toNat + 4 * imm.toNat) := by
  rw [scaled4_eq_ofNat, add_ofNat_eq]

theorem add_scaled4_append (a : Word) (imm2 : BitVec 2) (imm5 : BitVec 5) :
    a + scaled4 (imm2 ++ imm5) = BitVec.ofNat 32 (a.toNat + 4 * (32 * imm2.toNat + imm5.toNat)) := by
  rw [add_scaled4, toNat_imm2_append_imm5]

theorem sub_scaled4_append (a : Word) (imm2 : BitVec 2) (imm5 : BitVec 5) :
    a - scaled4 (imm2 ++ imm5) = BitVec.ofInt 32 (a.toInt - 4 * (32 * imm2.toNat + imm5.toNat)) := by
  rw [scaled4_eq_ofNat, toNat_imm2_append_imm5, ← BitVec.ofInt_natCast, sub_ofInt_eq]
  push_cast
  rfl

/-- Settles O32: each form writes back the sum or the difference of its operands. -/
theorem addAndSubtractResults : Obligations.AddAndSubtractResults := by
  intro s
  refine ⟨fun rz rx => ⟨rfl, ?addu16⟩, fun rz rx ry => ⟨rfl, ?addu16Three⟩, fun rz imm8 => ⟨rfl, ?addi16⟩,
    fun rz rx imm3 => ⟨rfl, ?addi16Three⟩, fun rz imm8 => ⟨rfl, ?addi16FromSp⟩, fun imm2 imm5 => ⟨rfl, ?addi16Sp⟩,
    fun rz rx => ⟨rfl, ?subu16⟩, fun rz rx ry => ⟨rfl, ?subu16Three⟩, fun rz imm8 => ⟨rfl, ?subi16⟩,
    fun rz rx imm3 => ⟨rfl, ?subi16Three⟩, fun imm2 imm5 => ⟨rfl, ?subi16Sp⟩⟩
  case addu16 | addu16Three => exact completes_writeBack rfl (add_eq_ofNat _ _)
  case addi16 | addi16Three => exact completes_writeBack rfl (add_biased _ _)
  case addi16FromSp => exact completes_writeBack rfl (add_scaled4 _ _)
  case addi16Sp => exact completes_writeBack rfl (add_scaled4_append _ _ _)
  case subu16 | subu16Three => exact completes_writeBack rfl (sub_eq_ofInt _ _)
  case subi16 | subi16Three => exact completes_writeBack rfl (sub_biased _ _)
  case subi16Sp => exact completes_writeBack rfl (sub_scaled4_append _ _ _)

/-! The 33-bit sums of ADDC16 and SUBC16 -/

/-- No 33-bit sum wraps. -/
theorem toNat_sum33 (a b : Word) (c : Bool) : (sum33 a b c).toNat = a.toNat + b.toNat + c.toNat := by
  have hc := c.toNat_le
  have ha := a.isLt
  have hb := b.isLt
  simp only [sum33, BitVec.toNat_add, BitVec.toNat_setWidth, BitVec.toNat_ofBool]
  omega

theorem sumWord_eq_ofNat (t : BitVec 33) : sumWord t = BitVec.ofNat 32 t.toNat := by
  rw [sumWord, BitVec.ofNat_toNat, BitVec.setWidth_eq_extractLsb' (by decide)]

theorem sumCarry_eq_decide (t : BitVec 33) : sumCarry t = decide (2 ^ 32 ≤ t.toNat) :=
  BitVec.getLsbD_last t

theorem sumWord_add (a b : Word) (c : Bool) : sumWord (sum33 a b c) = BitVec.ofNat 32 (a.toNat + b.toNat + c.toNat) := by
  rw [sumWord_eq_ofNat, toNat_sum33]

theorem sumCarry_add (a b : Word) (c : Bool) :
    sumCarry (sum33 a b c) = decide (2 ^ 32 ≤ a.toNat + b.toNat + c.toNat) := by
  rw [sumCarry_eq_decide, toNat_sum33]

/-- The sum with the complement exceeds the difference by 2^32 (40_arith_logic_shift.md R214). -/
theorem toNat_sum33_not (a b : Word) (c : Bool) :
    ((sum33 a (~~~b) c).toNat : Int) = a.toNat - b.toNat - (1 - c.toNat : Int) + 2 ^ 32 := by
  have hb := b.isLt
  rw [toNat_sum33, BitVec.toNat_not]
  omega

theorem sumWord_sub (a b : Word) (c : Bool) :
    sumWord (sum33 a (~~~b) c) = BitVec.ofInt 32 (a.toNat - b.toNat - (1 - c.toNat : Int)) := by
  rw [sumWord_eq_ofNat, ← BitVec.ofInt_natCast, toNat_sum33_not, BitVec.ofInt_add]
  exact BitVec.add_zero _

/-- The carry of the sum with the complement is the absence of a borrow (40_arith_logic_shift.md R214). -/
theorem sumCarry_sub (a b : Word) (c : Bool) :
    sumCarry (sum33 a (~~~b) c) = decide (b.toNat + (1 - c.toNat) ≤ a.toNat) := by
  have h := toNat_sum33_not a b c
  have hc := c.toNat_le
  rw [sumCarry_eq_decide, decide_eq_decide]
  omega

/-- Settles O33: C is written in the state before the register, so also where the register write is dropped. -/
theorem carryArithmeticResults : Obligations.CarryArithmeticResults := fun _ _ _ =>
  ⟨rfl, completes_writeBack_setC rfl (sumWord_add _ _ _) (sumCarry_add _ _ _), rfl,
    completes_writeBack_setC rfl (sumWord_sub _ _ _) (sumCarry_sub _ _ _)⟩

/-! Logic -/

theorem not_eq_xor_ones (a : Word) : ~~~a = a ^^^ 0xFFFFFFFF := BitVec.xor_allOnes.symm

/-- NOR16 of a register with itself is its complement (40_arith_logic_shift.md R220). -/
theorem not_or_self (a : Word) : ~~~(a ||| a) = a ^^^ 0xFFFFFFFF := by
  rw [BitVec.or_self, not_eq_xor_ones]

/-- Settles O34: each instruction writes back the operation on its registers, and the complement is XOR with ones. -/
theorem logicResults : Obligations.LogicResults := by
  intro s rz rx
  refine ⟨rfl, completes_writeBack rfl rfl, rfl, completes_writeBack rfl ?andn16, rfl, completes_writeBack rfl rfl, rfl,
    completes_writeBack rfl rfl, rfl, completes_writeBack rfl ?nor16, rfl, completes_writeBack rfl ?not16⟩
  case andn16 => rw [not_eq_xor_ones]
  case nor16 => exact not_eq_xor_ones _
  case not16 => exact not_or_self _

/-! Shifts -/

/-- The low 6 bits are the remainder by 64 (40_arith_logic_shift.md R232). -/
theorem shiftCount_eq (v : Word) : shiftCount v = v.toNat % 64 :=
  BitVec.extractLsb'_toNat ..

theorem shl_eq_ofNat (v : Word) (n : Nat) : v <<< n = BitVec.ofNat 32 (v.toNat * 2 ^ n) := by
  apply BitVec.eq_of_toNat_eq
  rw [BitVec.toNat_shiftLeft, BitVec.toNat_ofNat, Nat.shiftLeft_eq]

theorem shr_eq_ofNat (v : Word) (n : Nat) : v >>> n = BitVec.ofNat 32 (v.toNat / 2 ^ n) := by
  rw [← Nat.shiftRight_eq_div_pow, ← BitVec.toNat_ushiftRight, BitVec.ofNat_toNat, BitVec.setWidth_eq]

theorem sar_eq_ofInt (v : Word) (n : Nat) : v.sshiftRight n = BitVec.ofInt 32 (v.toInt / 2 ^ n) := by
  rw [BitVec.sshiftRight_eq, Int.shiftRight_eq_div_pow]
  push_cast
  rfl

/-- A shift by 32 or more leaves no bit (40_arith_logic_shift.md R225). -/
theorem shiftLeft_eq_shl (v : Word) (n : Nat) : shiftLeft v n = v <<< n := by
  rw [shiftLeft]
  split
  next h => exact (BitVec.shiftLeft_eq_zero h).symm
  next => rfl

theorem shiftRight_eq_shr (v : Word) (n : Nat) : shiftRight v n = v >>> n := by
  rw [shiftRight]
  split
  next h => exact (BitVec.ushiftRight_eq_zero h).symm
  next => rfl

/-- A shift by 31 or more leaves copies of the sign bit (40_arith_logic_shift.md R229). -/
theorem sar_eq_sign (v : Word) {n : Nat} (h : 30 < n) : v.sshiftRight n = if v.getLsbD 31 then 0xFFFFFFFF else 0 := by
  apply BitVec.eq_of_getLsbD_eq
  intro j hj
  have hbit : (v.sshiftRight n).getLsbD j = v.getLsbD 31 := by
    rw [BitVec.getLsbD_sshiftRight, BitVec.msb_eq_getLsbD_last, decide_eq_false (by omega), Bool.not_false,
      Bool.true_and, ite_eq_right_iff]
    intro hlt
    rw [show n + j = 31 by omega]
  rw [hbit]
  cases v.getLsbD 31
  case false => exact BitVec.getLsbD_zero.symm
  case true => exact (BitVec.getLsbD_allOnes.trans (decide_eq_true hj)).symm

theorem shiftArith_eq_sar (v : Word) (n : Nat) : shiftArith v n = v.sshiftRight n := by
  rw [shiftArith]
  split
  next h => exact (sar_eq_sign v h).symm
  next => rfl

theorem rotateLeft_of_lt (v : Word) {n : Nat} (h : n < 32) : rotateLeft v n = v.rotateLeft n := by
  rw [rotateLeft, if_neg (by omega), BitVec.rotateLeft_def, Nat.mod_eq_of_lt h]
  split
  next h0 => rw [h0, BitVec.shiftLeft_zero, BitVec.ushiftRight_eq_zero (by decide), BitVec.or_zero]
  next => rfl

/-- The counts 32 to 63 give 0 as the manual states it (40_arith_logic_shift.md R231, log 34). -/
theorem rotateLeft_eq_ite (v : Word) (n : Nat) : rotateLeft v n = if 32 ≤ n then 0 else v.rotateLeft n := by
  split
  next h => exact if_pos h
  next h => exact rotateLeft_of_lt v (Nat.lt_of_not_le h)

theorem shiftLeft_shiftCount (v x : Word) :
    shiftLeft v (shiftCount x) = BitVec.ofNat 32 (v.toNat * 2 ^ (x.toNat % 64)) := by
  rw [shiftLeft_eq_shl, shl_eq_ofNat, shiftCount_eq]

theorem shiftRight_shiftCount (v x : Word) :
    shiftRight v (shiftCount x) = BitVec.ofNat 32 (v.toNat / 2 ^ (x.toNat % 64)) := by
  rw [shiftRight_eq_shr, shr_eq_ofNat, shiftCount_eq]

theorem shiftArith_shiftCount (v x : Word) :
    shiftArith v (shiftCount x) = BitVec.ofInt 32 (v.toInt / 2 ^ (x.toNat % 64)) := by
  rw [shiftArith_eq_sar, sar_eq_ofInt, shiftCount_eq]

theorem rotateLeft_shiftCount (v x : Word) :
    rotateLeft v (shiftCount x) = if 32 ≤ x.toNat % 64 then 0 else v.rotateLeft (x.toNat % 64) := by
  rw [rotateLeft_eq_ite, shiftCount_eq]

/-- Settles O35: the register forms shift by the low 6 bits of the count register, the immediate forms by IMM5. -/
theorem shiftResults : Obligations.ShiftResults := by
  intro s
  refine ⟨fun rz rx => ⟨rfl, ?lsl16⟩, fun rz rx => ⟨rfl, ?lsr16⟩, fun rz rx => ⟨rfl, ?asr16⟩, fun rz rx => ⟨rfl, ?rotl16⟩,
    fun rz rx imm5 => ⟨rfl, ?lsli16⟩, fun rz rx imm5 => ⟨rfl, ?lsri16⟩, fun rz rx imm5 => ⟨rfl, ?asri16⟩⟩
  case lsl16 => exact completes_writeBack rfl (shiftLeft_shiftCount _ _)
  case lsr16 => exact completes_writeBack rfl (shiftRight_shiftCount _ _)
  case asr16 => exact completes_writeBack rfl (shiftArith_shiftCount _ _)
  case rotl16 => exact completes_writeBack rfl (rotateLeft_shiftCount _ _)
  case lsli16 => exact completes_writeBack rfl (shl_eq_ofNat _ _)
  case lsri16 => exact completes_writeBack rfl (shr_eq_ofNat _ _)
  case asri16 => exact completes_writeBack rfl (sar_eq_ofInt _ _)

end Sys2Proof.Machine

/-! PROOFS. The compare, test, move, bit, extract and multiply instructions (41_compare_move_bit_ext_mult.md): the flags
and the words they write. -/

namespace Sys2Proof.Machine

/-! The frame of a compare or test -/

/-- An instruction that writes C alone. -/
theorem completes_writeFlag {i : Instr} {s : State} {b c : Bool} (hexec : exec i s = writeFlag b s) (hb : b = c) :
    Completes i s (WritesFlagAndPc c (s.pc + 2) s) := by
  subst hb
  exact ⟨_, hexec, rfl, rfl, fun _ => rfl, fun _ => rfl, by constructor <;> rfl⟩

/-! The operands read as numbers -/

theorem toNat_plainImm {n : Nat} (hn : n ≤ 32) (imm : BitVec n) : (plainImm imm).toNat = imm.toNat :=
  BitVec.toNat_setWidth_of_le hn

/-- A biased immediate does not wrap, and its sign bit is clear. -/
theorem toNat_succ_lt_of_narrow {n : Nat} (hn : n < 31) (imm : BitVec n) : imm.toNat + 1 < 2 ^ 31 :=
  calc imm.toNat + 1 ≤ 2 ^ n := imm.isLt
    _ < 2 ^ 31 := Nat.pow_lt_pow_right (by decide) hn

theorem toNat_biased {n : Nat} (hn : n < 31) (imm : BitVec n) : (biased imm).toNat = imm.toNat + 1 := by
  have hlt := toNat_succ_lt_of_narrow hn imm
  rw [biased_eq_ofNat, BitVec.toNat_ofNat, Nat.mod_eq_of_lt (by omega)]

theorem toInt_biased {n : Nat} (hn : n < 31) (imm : BitVec n) : (biased imm).toInt = imm.toNat + 1 := by
  have hlt := toNat_succ_lt_of_narrow hn imm
  rw [← toNat_biased hn] at hlt
  rw [BitVec.toInt_eq_toNat_of_lt (by omega), toNat_biased hn, Int.natCast_succ]

/-! The relations -/

theorem differs_eq_decide_toNat (a b : Word) : differs a b = decide (a.toNat ≠ b.toNat) :=
  decide_eq_decide.mpr BitVec.toNat_ne

theorem higherSame_biased {n : Nat} (hn : n < 31) (a : Word) (imm : BitVec n) :
    higherSame a (biased imm) = decide (imm.toNat + 1 ≤ a.toNat) := by
  rw [higherSame, toNat_biased hn]

theorem lessThan_biased {n : Nat} (hn : n < 31) (a : Word) (imm : BitVec n) :
    lessThan a (biased imm) = decide (a.toInt < imm.toNat + 1) := by
  rw [lessThan, toInt_biased hn]

theorem differs_plainImm {n : Nat} (hn : n ≤ 32) (a : Word) (imm : BitVec n) :
    differs a (plainImm imm) = decide (a.toNat ≠ imm.toNat) := by
  rw [differs_eq_decide_toNat, toNat_plainImm hn]

/-- A bitwise AND is not zero when some bit is set in both operands. -/
theorem and_ne_zero_iff (a b : Word) :
    a &&& b ≠ 0 ↔ ∃ k : Fin 32, a.getLsbD k.val = true ∧ b.getLsbD k.val = true := by
  rw [← not_iff_not, not_exists, ne_eq, not_not, BitVec.eq_of_getLsbD_eq_iff, Fin.forall_iff]
  simp

theorem testBits_eq_decide (a b : Word) :
    testBits a b = decide (∃ k : Fin 32, a.getLsbD k.val = true ∧ b.getLsbD k.val = true) :=
  decide_eq_decide.mpr (and_ne_zero_iff a b)

/-- Byte `k` of a word is digit `k` to the base 256. -/
theorem toNat_byte (a : Word) (k : Nat) : (a.extractLsb' (8 * k) 8).toNat = a.toNat / 256 ^ k % 256 := by
  rw [BitVec.extractLsb'_toNat, Nat.shiftRight_eq_div_pow, Nat.pow_mul]

theorem byte_ne_zero_iff (a : Word) (k : Nat) : a.extractLsb' (8 * k) 8 ≠ 0 ↔ a.toNat / 256 ^ k % 256 ≠ 0 := by
  rw [BitVec.toNat_ne, toNat_byte]
  rfl

theorem noZeroByte_iff (a : Word) : noZeroByte a = true ↔ ∀ k : Fin 4, a.extractLsb' (8 * k.val) 8 ≠ 0 := by
  simp only [noZeroByte, Bool.and_eq_true, decide_eq_true_eq]
  constructor
  · rintro ⟨⟨⟨h3, h2⟩, h1⟩, h0⟩ k
    match k with
    | 0 => exact h0
    | 1 => exact h1
    | 2 => exact h2
    | 3 => exact h3
  · exact fun h => ⟨⟨⟨h 3, h 2⟩, h 1⟩, h 0⟩

theorem noZeroByte_eq_decide (a : Word) :
    noZeroByte a = decide (∀ k : Fin 4, a.toNat / 256 ^ k.val % 256 ≠ 0) := by
  rw [Bool.eq_iff_iff, decide_eq_true_eq, noZeroByte_iff]
  exact forall_congr' fun k => byte_ne_zero_iff a k.val

theorem getLsbD_eq_decide (a : Word) (n : Nat) : a.getLsbD n = decide (a.toNat / 2 ^ n % 2 = 1) := by
  rw [← BitVec.testBit_toNat, Nat.testBit_eq_decide_div_mod_eq]

/-- Settles O36: each form writes its relation of the operands, read as numbers, to C. -/
theorem compareAndTestResults : Obligations.CompareAndTestResults := by
  intro s
  refine ⟨fun rx ry => ⟨rfl, ?cmphs16⟩, fun rx ry => ⟨rfl, ?cmplt16⟩, fun rx ry => ⟨rfl, ?cmpne16⟩,
    fun rx ry => ⟨rfl, ?tst16⟩, fun rx imm5 => ⟨rfl, ?cmphsi16⟩, fun rx imm5 => ⟨rfl, ?cmplti16⟩,
    fun rx imm5 => ⟨rfl, ?cmpnei16⟩, fun rx => ⟨rfl, ?tstnbz16⟩, fun rx imm5 => ⟨rfl, ?btsti16⟩⟩
  case cmphs16 | cmplt16 => exact completes_writeFlag rfl rfl
  case cmpne16 => exact completes_writeFlag rfl (differs_eq_decide_toNat _ _)
  case tst16 => exact completes_writeFlag rfl (testBits_eq_decide _ _)
  case cmphsi16 => exact completes_writeFlag rfl (higherSame_biased (by decide) _ _)
  case cmplti16 => exact completes_writeFlag rfl (lessThan_biased (by decide) _ _)
  case cmpnei16 => exact completes_writeFlag rfl (differs_plainImm (by decide) _ _)
  case tstnbz16 => exact completes_writeFlag rfl (noZeroByte_eq_decide _)
  case btsti16 => exact completes_writeFlag rfl (getLsbD_eq_decide _ _)

/-! Moves -/

theorem plainImm_eq_ofNat {n : Nat} (imm : BitVec n) : plainImm imm = BitVec.ofNat 32 imm.toNat :=
  (BitVec.ofNat_toNat 32 imm).symm

/-- The complement of C as a word (41_compare_move_bit_ext_mult.md R252). -/
theorem complement_flag_eq_ofNat (c : Bool) : (if c then 0 else 1 : Word) = BitVec.ofNat 32 (1 - c.toNat) := by
  cases c <;> rfl

/-! One bit of a word, by arithmetic -/

theorem bit_mul_pow_le (a n : Nat) : a / 2 ^ n % 2 * 2 ^ n ≤ a :=
  calc a / 2 ^ n % 2 * 2 ^ n ≤ a / 2 ^ n * 2 ^ n := Nat.mul_le_mul_right _ (Nat.mod_le _ _)
    _ ≤ a := Nat.div_mul_le_self a (2 ^ n)

theorem one_shl_eq_ofNat (n : Nat) : (1 : Word) <<< n = BitVec.ofNat 32 (2 ^ n) := by
  rw [shl_eq_ofNat, show (1 : Word).toNat = 1 from rfl, Nat.one_mul]

/-- A mask of one bit selects the bit's value. -/
theorem and_one_shl (a : Word) (n : Nat) : a &&& (1 : Word) <<< n = BitVec.ofNat 32 (a.toNat / 2 ^ n % 2 * 2 ^ n) := by
  have hmask : a &&& (1 : Word) <<< n = if a.getLsbD n then (1 : Word) <<< n else 0 := by
    have h := BitVec.and_twoPow a n
    rwa [BitVec.twoPow_eq] at h
  rw [hmask, ← Nat.toNat_testBit, BitVec.testBit_toNat, one_shl_eq_ofNat]
  cases a.getLsbD n <;> simp

/-- A word has no bit outside a mask and inside it. -/
theorem and_not_and_self (a m : Word) : (a &&& ~~~m) &&& m = 0#32 := by
  ext k hk
  simp

/-- Clearing the bits of a mask and then setting them is setting them. -/
theorem and_not_or_self (a m : Word) : (a &&& ~~~m) ||| m = a ||| m := by
  ext k hk
  simp [Bool.or_and_distrib_right]

/-- Setting the bits of a mask fills up what clearing them leaves. -/
theorem and_not_add (a m : Word) : (a &&& ~~~m) + m = a ||| m := by
  rw [BitVec.add_eq_or_of_and_eq_zero _ _ (and_not_and_self a m), and_not_or_self]

/-- The bits outside a mask and the bits inside it make up the word. -/
theorem and_not_add_and (a m : Word) : (a &&& ~~~m) + (a &&& m) = a := by
  have hdisjoint : (a &&& ~~~m) &&& (a &&& m) = 0#32 := by
    rw [BitVec.and_comm a m, ← BitVec.and_assoc, and_not_and_self, BitVec.zero_and]
  rw [BitVec.add_eq_or_of_and_eq_zero _ _ hdisjoint, ← BitVec.and_or_distrib_left, BitVec.not_or_self,
    BitVec.and_allOnes]

/-- Clearing a bit takes its value away (41_compare_move_bit_ext_mult.md R254). -/
theorem clearBit_eq_ofNat (a : Word) (n : Nat) :
    a &&& ~~~((1 : Word) <<< n) = BitVec.ofNat 32 (a.toNat - a.toNat / 2 ^ n % 2 * 2 ^ n) := by
  have hle := bit_mul_pow_le a.toNat n
  have hsum := and_not_add_and a ((1 : Word) <<< n)
  rw [and_one_shl] at hsum
  rw [← BitVec.ofNat_sub_ofNat_of_le _ _ (hle.trans_lt a.isLt) hle, BitVec.ofNat_toNat, BitVec.setWidth_eq]
  exact BitVec.eq_sub_iff_add_eq.mpr hsum

/-- Setting a bit adds its value where it was clear (41_compare_move_bit_ext_mult.md R255). -/
theorem setBit_eq_ofNat (a : Word) (n : Nat) :
    a ||| (1 : Word) <<< n = BitVec.ofNat 32 (a.toNat + (1 - a.toNat / 2 ^ n % 2) * 2 ^ n) := by
  rw [← and_not_add, clearBit_eq_ofNat, one_shl_eq_ofNat, ← BitVec.ofNat_add]
  have hle := bit_mul_pow_le a.toNat n
  congr 1
  rcases Nat.mod_two_eq_zero_or_one (a.toNat / 2 ^ n) with hbit | hbit <;> rw [hbit] at hle ⊢ <;> omega

/-! Extracts and the product -/

theorem zeroExtend_low_eq_ofNat (a : Word) (n : Nat) :
    (a.extractLsb' 0 n).setWidth 32 = BitVec.ofNat 32 (a.toNat % 2 ^ n) := by
  rw [← BitVec.ofNat_toNat, BitVec.extractLsb'_toNat, Nat.shiftRight_zero]

theorem signExtend_low_eq_ofInt (a : Word) (n : Nat) :
    (a.extractLsb' 0 n).signExtend 32 = BitVec.ofInt 32 ((a.toNat : Int).bmod (2 ^ n)) := by
  rw [BitVec.signExtend, BitVec.toInt_extractLsb', Nat.shiftRight_zero]

theorem mul_eq_ofNat (a b : Word) : a * b = BitVec.ofNat 32 (a.toNat * b.toNat) := by
  rw [BitVec.ofNat_mul, BitVec.ofNat_toNat, BitVec.ofNat_toNat, BitVec.setWidth_eq, BitVec.setWidth_eq]

/-- Settles O37: each form writes back its result, read as a number. -/
theorem moveBitExtractAndMultiplyResults : Obligations.MoveBitExtractAndMultiplyResults := by
  intro s
  refine ⟨fun rz rx => ⟨rfl, ?mov16⟩, fun rz imm8 => ⟨rfl, ?movi16⟩, fun rz => ⟨rfl, ?mvcv16⟩,
    fun rz imm5 => ⟨rfl, ?bclri16⟩, fun rz imm5 => ⟨rfl, ?bseti16⟩, fun rz rx => ⟨rfl, ?zextb16⟩,
    fun rz rx => ⟨rfl, ?zexth16⟩, fun rz rx => ⟨rfl, ?sextb16⟩, fun rz rx => ⟨rfl, ?sexth16⟩,
    fun rz rx => ⟨rfl, ?mult16⟩⟩
  case mov16 => exact completes_writeBack rfl rfl
  case movi16 => exact completes_writeBack rfl (plainImm_eq_ofNat _)
  case mvcv16 => exact completes_writeBack rfl (complement_flag_eq_ofNat _)
  case bclri16 => exact completes_writeBack rfl (clearBit_eq_ofNat _ _)
  case bseti16 => exact completes_writeBack rfl (setBit_eq_ofNat _ _)
  case zextb16 | zexth16 => exact completes_writeBack rfl (zeroExtend_low_eq_ofNat _ _)
  case sextb16 | sexth16 => exact completes_writeBack rfl (signExtend_low_eq_ofInt _ _)
  case mult16 => exact completes_writeBack rfl (mul_eq_ofNat _ _)

end Sys2Proof.Machine

/-! PROOFS. Decoding and encoding are inverse to each other (30_encoding.md R153, R185 to R188). A row of the opcode list
fixes some bits of a word and reads the others as fields; both are told of a word that is put together from pieces. -/

namespace Sys2Proof

/-! Words put together from pieces -/

/-- The bits of the word that `mask` selects are those of `pattern` (30_encoding.md R153). -/
def Agrees {n : Nat} (w mask pattern : BitVec n) : Prop := w &&& mask = pattern

theorem Row.hits_iff_agrees {n : Nat} {r : Row n} {w : BitVec n} : r.hits w = true ↔ Agrees w r.mask r.pattern :=
  beq_iff_eq

theorem agrees_of_and_eq {n : Nat} {w mask pattern : BitVec n} (h : w &&& mask = pattern) : Agrees w mask pattern := h

/-- Where nothing is selected, any field will do. -/
theorem agrees_of_free {n : Nat} (w : BitVec n) {mask pattern : BitVec n} (hm : mask = 0) (hp : pattern = 0) :
    Agrees w mask pattern := by
  rw [Agrees, hm, hp]
  exact BitVec.and_zero

/-- Two pieces agree with a pattern when each agrees with its part. -/
theorem agrees_append {p q : Nat} (x : BitVec p) (y : BitVec q) (mask pattern : BitVec (p + q)) :
    Agrees (x ++ y) mask pattern ↔ Agrees x (mask.extractLsb' q p) (pattern.extractLsb' q p) ∧
      Agrees y (mask.extractLsb' 0 q) (pattern.extractLsb' 0 q) := by
  unfold Agrees
  constructor
  · rintro rfl
    rw [BitVec.extractLsb'_and, BitVec.extractLsb'_and, BitVec.extractLsb'_append_eq_left,
      BitVec.extractLsb'_append_eq_right]
    exact ⟨rfl, rfl⟩
  · rintro ⟨hx, hy⟩
    rw [← BitVec.extractLsb'_append_extractLsb' (x := mask), BitVec.and_append, hx, hy,
      BitVec.extractLsb'_append_extractLsb']

/-- The bits of `w` from `k` on are those of `x`. -/
def IsField {n l : Nat} (w : BitVec n) (k : Nat) (x : BitVec l) : Prop := w.extractLsb' k l = x

theorem eq_of_isField {n : Nat} {w x : BitVec n} (h : IsField w 0 x) : x = w := h.symm.trans BitVec.extractLsb'_eq_self

/-- A field that the row reads is there. -/
theorem isField_extractLsb' {n : Nat} (w : BitVec n) (k l : Nat) : IsField w k (w.extractLsb' k l) := rfl

/-- A field that the row fixes is there. -/
theorem isField_of_agrees {n l : Nat} {w mask pattern : BitVec n} (h : Agrees w mask pattern) {k : Nat} {x : BitVec l}
    (hm : mask.extractLsb' k l = BitVec.allOnes l) (hx : pattern.extractLsb' k l = x) : IsField w k x := by
  rw [← hx, ← h, IsField, BitVec.extractLsb'_and, hm, BitVec.and_allOnes]

theorem isField_append {n p q : Nat} {w : BitVec n} {k : Nat} {x : BitVec p} {y : BitVec q} :
    IsField w k (x ++ y) ↔ IsField w (k + q) x ∧ IsField w k y := by
  unfold IsField
  rw [← BitVec.extractLsb'_append_extractLsb'_eq_extractLsb' rfl]
  constructor
  · intro h
    have hx := congrArg (BitVec.extractLsb' q p) h
    have hy := congrArg (BitVec.extractLsb' 0 q) h
    rw [BitVec.extractLsb'_append_eq_left, BitVec.extractLsb'_append_eq_left] at hx
    rw [BitVec.extractLsb'_append_eq_right, BitVec.extractLsb'_append_eq_right] at hy
    exact ⟨hx, hy⟩
  · rintro ⟨hx, hy⟩
    rw [hx, hy]

/-! From words to instructions -/

/-- A word that matches the row is the encoding of what the row builds. -/
def Row.EncodesBack {n : Nat} (word : BitVec n → InstrWord) (r : Row n) : Prop :=
  ∀ w, Agrees w r.mask r.pattern → encode (r.build w) = word w

theorem encodesBack_half {r : Row 16} {e : Half → Half} (he : ∀ w, encode (r.build w) = .half (e w))
    (h : ∀ w, Agrees w r.mask r.pattern → IsField w 0 (e w)) : r.EncodesBack .half := fun w hw =>
  (he w).trans (congrArg InstrWord.half (eq_of_isField (h w hw)))

theorem encodesBack_full {r : Row 32} {e : Word → Word} (he : ∀ w, encode (r.build w) = .full (e w))
    (h : ∀ w, Agrees w r.mask r.pattern → IsField w 0 (e w)) : r.EncodesBack .full := fun w hw =>
  (he w).trans (congrArg InstrWord.full (eq_of_isField (h w hw)))

/-- Row by row: each piece of the encoding is a field that the row reads, or bits that it fixes. -/
theorem encodesBack_rows16 : ∀ r ∈ rows16, r.EncodesBack .half := by
  simp only [rows16, rowsLow, rowsImm, rowsReg, rowsMem, List.forall_mem_append, List.forall_mem_cons,
    List.not_mem_nil, false_implies, implies_true, and_true]
  repeat' apply And.intro
  all_goals
    refine encodesBack_half (fun _ => rfl) fun w h => ?_
    simp (disch := decide) only [isField_append, isField_extractLsb', isField_of_agrees h, and_self]

theorem encodesBack_rows32 : ∀ r ∈ rows32, r.EncodesBack .full := by
  simp only [rows32, rowsSys, rowsWide, List.forall_mem_append, List.forall_mem_cons, List.not_mem_nil, false_implies,
    implies_true, and_true]
  repeat' apply And.intro
  all_goals
    refine encodesBack_full (fun _ => rfl) fun w h => ?_
    simp (disch := decide) only [isField_append, isField_extractLsb', isField_of_agrees h, and_self]

/-- LRW16 with every field zero has the word of BKPT16 (30_encoding.md R185). -/
theorem encode_of_isZeroLrw16 {i : Instr} (h : i.isZeroLrw16 = true) : encode i = .half 0 := by
  cases i
  case lrw16 =>
    simp only [Instr.isZeroLrw16, Bool.and_eq_true, beq_iff_eq] at h
    obtain ⟨⟨⟨rfl, rfl⟩, rfl⟩, rfl⟩ := h
    rfl
  all_goals exact absurd h Bool.false_ne_true

/-- Nothing decodes to LRW16 with every field zero: its word is read as BKPT16. -/
theorem isZeroLrw16_of_lookup {c : Config} {w : Half} {i : Instr} (h : lookup (rows16Of c) w = some i)
    (he : encode i = .half w) : i.isZeroLrw16 = false := by
  by_contra hz
  rw [encode_of_isZeroLrw16 (Bool.eq_true_of_not_eq_false hz)] at he
  cases he
  cases (lookup_zero c).symm.trans h
  exact hz rfl

/-- What well-formedness refuses are 16-bit instructions. -/
theorem wellFormed_of_encode_full {c : Config} {i : Instr} {w : Word} (h : encode i = .full w) :
    i.wellFormed c = true := by
  cases i
  case nie16 | nir16 | ipush16 | ipop16 | lrw16 => cases h
  all_goals rfl

/-- Settles O2: the row that matched encodes back, and what decoding refuses besides is what is not well-formed. -/
theorem decodedWordIsItsEncoding : Obligations.DecodedWordIsItsEncoding := by
  intro c w i halt hdec
  cases w with
  | half w =>
    cases hl : lookup (rows16Of c) w with
    | none => simp [decodeWord, hl] at hdec
    | some j =>
      simp only [decodeWord, hl] at hdec
      split at hdec
      next => cases hdec
      next hnest =>
        cases hdec
        obtain ⟨r, hr, hh, hb⟩ := exists_row_of_lookup hl
        rw [rows16Of, halt, if_neg Bool.false_ne_true] at hr
        have he : encode i = .half w := hb ▸ encodesBack_rows16 r hr w (Row.hits_iff_agrees.mp hh)
        refine ⟨he, ?_⟩
        rw [Instr.wellFormed, isZeroLrw16_of_lookup hl he]
        simpa [imp_iff_not_or] using hnest
  | full w =>
    cases hl : lookup rows32 w with
    | none => simp [decodeWord, hl] at hdec
    | some j =>
      simp only [decodeWord, hl] at hdec
      cases hdec
      obtain ⟨r, hr, hh, hb⟩ := exists_row_of_lookup hl
      have he : encode i = .full w := hb ▸ encodesBack_rows32 r hr w (Row.hits_iff_agrees.mp hh)
      exact ⟨he, wellFormed_of_encode_full he⟩

/-! From instructions to words -/

/-- The word of the instruction matches the row in the instruction's place, which reads the instruction from it. The rows
stand in the order of the constructors, the 32-bit ones after the 16-bit ones. -/
def Instr.ReadByRow (i : Instr) : Prop :=
  match encode i with
  | .half w => ∃ r, rows16[i.ctorIdx]? = some r ∧ Agrees w r.mask r.pattern ∧ r.build w = i
  | .full w => ∃ r, rows32[i.ctorIdx - rows16.length]? = some r ∧ Agrees w r.mask r.pattern ∧ r.build w = i

/-- Instruction by instruction: the pieces of the encoding agree with the row, and each field is read where it stands. -/
theorem readByRow (i : Instr) : i.ReadByRow := by
  cases i
  all_goals
    refine ⟨_, rfl, ?agrees, ?build⟩
    case agrees => simp (disch := decide) only [agrees_append, agrees_of_free, agrees_of_and_eq, and_self]
    case build =>
      simp (disch := decide) only [BitVec.extractLsb'_append_eq_of_le, BitVec.extractLsb'_append_eq_of_add_le,
        Nat.reduceSub, BitVec.extractLsb'_eq_self]

theorem exists_row_of_encode_half {i : Instr} {w : Half} (h : encode i = .half w) :
    ∃ r ∈ rows16, Agrees w r.mask r.pattern ∧ r.build w = i := by
  have hr := readByRow i
  rw [Instr.ReadByRow, h] at hr
  obtain ⟨r, hget, hrow⟩ := hr
  exact ⟨r, List.mem_of_getElem? hget, hrow⟩

theorem exists_row_of_encode_full {i : Instr} {w : Word} (h : encode i = .full w) :
    ∃ r ∈ rows32, Agrees w r.mask r.pattern ∧ r.build w = i := by
  have hr := readByRow i
  rw [Instr.ReadByRow, h] at hr
  obtain ⟨r, hget, hrow⟩ := hr
  exact ⟨r, List.mem_of_getElem? hget, hrow⟩

/-- The instructions with the word 0 are BKPT16 and the LRW16 that is not well-formed (30_encoding.md R185). -/
theorem eq_bkpt16_of_encode_zero {i : Instr} (h : encode i = .half 0) (hz : i.isZeroLrw16 = false) : i = .bkpt16 := by
  have hrows : ∀ r ∈ rows16, r.pattern = 0 → r.build 0 = .bkpt16 ∨ (r.build 0).isZeroLrw16 = true := by decide
  obtain ⟨r, hr, ha, rfl⟩ := exists_row_of_encode_half h
  exact (hrows r hr (ha.symm.trans BitVec.zero_and)).resolve_right (by rw [hz]; exact Bool.false_ne_true)

/-- Only BKPT16, the head of the list, matches a word by all of its bits being 0. -/
theorem mem_tail_of_agrees {r : Row 16} (hr : r ∈ rows16) {w : Half} (hw : w ≠ 0) (ha : Agrees w r.mask r.pattern) :
    r ∈ rows16.tail := by
  refine (List.mem_cons.mp hr).resolve_left fun he => hw ?_
  subst he
  exact BitVec.and_allOnes.symm.trans ha

theorem decodeWord_encode {c : Config} {i : Instr} (h : i.wellFormed c = true) : decodeWord c (encode i) = .ok i := by
  simp only [Instr.wellFormed, Bool.and_eq_true, Bool.not_eq_true'] at h
  obtain ⟨hnest, hz⟩ := h
  cases he : encode i with
  | half w =>
    by_cases hw : w = 0
    · subst hw
      have hlook : lookup (rows16Of c) 0 = some .bkpt16 := lookup_zero c
      rw [eq_bkpt16_of_encode_zero he hz]
      simp only [decodeWord, hlook]
      rfl
    · obtain ⟨r, hr, ha, rfl⟩ := exists_row_of_encode_half he
      exact decodeWord_half_of_row r (mem_tail_of_agrees hr hw ha) hw ha (by simpa [or_iff_not_imp_left] using hnest)
  | full w =>
    obtain ⟨r, hr, ha, rfl⟩ := exists_row_of_encode_full he
    exact decodeWord_full_of_row r hr ha

/-! Words and their bytes -/

theorem isLong_eq (h : Half) : isLong h = (h.getLsbD 15 && h.getLsbD 14) := by
  have htop : ∀ x : BitVec 2, (x == 0b11#2) = (x.getLsbD 1 && x.getLsbD 0) := by decide
  rw [isLong, htop, BitVec.getLsbD_extractLsb', BitVec.getLsbD_extractLsb']
  rfl

theorem isLong_of_encode_half {i : Instr} {h : Half} (he : encode i = .half h) : isLong h = false := by
  have htag := Laws.LengthTag.holds i
  rw [Laws.LengthTag.Statement, he] at htag
  exact (isLong_eq h).trans htag

theorem isLong_of_encode_full {i : Instr} {w : Word} (he : encode i = .full w) : isLong (w.extractLsb' 16 16) = true := by
  have htag := Laws.LengthTag.holds i
  rw [Laws.LengthTag.Statement, he] at htag
  rw [isLong_eq, BitVec.getLsbD_extractLsb', BitVec.getLsbD_extractLsb']
  exact htag

/-- The bytes of the word of an instruction are split off as that word (30_encoding.md R150, 20_memory.md R102). -/
theorem splitWord_encode (e : Endian) (i : Instr) (rest : List Byte) :
    splitWord e ((encode i).bytes e ++ rest) = .ok (encode i, rest) := by
  cases he : encode i with
  | half h =>
    obtain ⟨b0, b1, hb, hj⟩ := joinHalf_halfBytes e h
    rw [InstrWord.bytes, hb]
    refine (if_neg (by rw [hj, isLong_of_encode_half he]; exact Bool.false_ne_true)).trans ?_
    rw [hj]
    rfl
  | full w =>
    obtain ⟨b0, b1, hb, hj⟩ := joinHalf_halfBytes e (w.extractLsb' 16 16)
    obtain ⟨b2, b3, hb', hj'⟩ := joinHalf_halfBytes e (w.extractLsb' 0 16)
    have hw : joinHalf e b0 b1 ++ joinHalf e b2 b3 = w := by
      rw [hj, hj']
      exact BitVec.extractLsb'_append_extractLsb'
    rw [InstrWord.bytes, hb, hb', ← hw]
    exact if_pos (by rw [hj, isLong_of_encode_full he])

/-- Settles O1. -/
theorem encodedInstructionDecodes : Obligations.EncodedInstructionDecodes := by
  intro c i h
  refine ⟨decodeWord_encode h, fun rest => ?_⟩
  simp only [decode, splitWord_encode, decodeWord_encode h]

/-! Rows that exclude each other -/

/-- Among rows that lie apart no two match one word. -/
theorem length_filter_hits_le_one {n : Nat} {rows : List (Row n)} (hd : rows.Pairwise Row.Apart) (w : BitVec n) :
    (rows.filter fun r => r.hits w).length ≤ 1 := by
  induction rows with
  | nil => exact Nat.zero_le 1
  | cons r rest ih =>
    obtain ⟨hr, hrest⟩ := List.pairwise_cons.mp hd
    cases hh : r.hits w with
    | false =>
      rw [List.filter_cons_of_neg (by simp [hh])]
      exact ih hrest
    | true =>
      have hnil : rest.filter (fun q => q.hits w) = [] := by
        rw [List.filter_eq_nil_iff]
        intro q hq
        rw [Row.not_hits_of_apart (hr q hq) hh]
        exact Bool.false_ne_true
      rw [List.filter_cons_of_pos (p := fun q : Row n => q.hits w) hh, hnil]
      rfl

/-- Settles O3: BKPT16 matches the word 0 alone, and all the other rows lie apart. -/
theorem noWordMatchesTwoRows : Obligations.NoWordMatchesTwoRows := by
  refine ⟨fun w hw => ?_, fun w => length_filter_hits_le_one rows32_apart w⟩
  have hhead : ¬ (⟨0xFFFF#16, 0x0000#16, fun _ => .bkpt16⟩ : Row 16).hits w = true := fun hh =>
    hw (BitVec.and_allOnes.symm.trans (Row.hits_iff_agrees.mp hh))
  have htail : rows16.tail.Pairwise Row.Apart := rows16_apart.sublist (List.sublist_append_left _ _)
  have hcons : rows16 = ⟨0xFFFF#16, 0x0000#16, fun _ => .bkpt16⟩ :: rows16.tail := rfl
  rw [hcons, List.filter_cons_of_neg (p := fun r : Row 16 => r.hits w) hhead]
  exact length_filter_hits_le_one htail w

/-! Register fields 16 to 31 (decision D24) -/

/-- What a word holds at some place. -/
structure WordField where
  place : Nat
  width : Nat
  bits : BitVec width

/-- A word with the field may match the row. -/
def Row.admits {n : Nat} (r : Row n) (f : WordField) : Bool :=
  f.bits &&& r.mask.extractLsb' f.place f.width == r.pattern.extractLsb' f.place f.width

theorem admits_of_hits {n : Nat} {r : Row n} {w : BitVec n} (hh : r.hits w = true) {f : WordField}
    (hf : IsField w f.place f.bits) : r.admits f = true := by
  rw [Row.admits, ← hf, ← Row.hits_iff_agrees.mp hh, BitVec.extractLsb'_and]
  exact beq_self_eq_true _

/-- A word is unimplemented when each row is contradicted by one of its fields. -/
theorem decodeWord_of_fields {c : Config} {w : Word} {fields : List WordField}
    (hw : ∀ f ∈ fields, IsField w f.place f.bits)
    (hrows : (rows32.all fun r => fields.any fun f => !r.admits f) = true) :
    decodeWord c (.full w) = .error (.unimplemented32 w) := by
  have hnone : lookup rows32 w = none := by
    rw [lookup, Option.map_eq_none_iff, List.find?_eq_none]
    intro r hr hh
    obtain ⟨f, hf, hno⟩ := List.any_eq_true.mp (List.all_eq_true.mp hrows r hr)
    rw [admits_of_hits hh (hw f hf)] at hno
    cases hno
  simp only [decodeWord, hnone]

theorem isField_bit {n : Nat} {w : BitVec n} {k : Nat} (h : w.getLsbD k = true) : IsField w k 1#1 := by
  apply BitVec.eq_of_getLsbD_eq
  intro j hj
  obtain rfl : j = 0 := by omega
  simpa using h

/-- The fields of the format and the fifth bit of a register field together contradict every row. -/
theorem decodeWord_of_fifth_bit {c : Config} {w : Word} {k : Nat} (hbit : w.getLsbD k = true) {fields : List WordField}
    (hw : ∀ f ∈ fields, IsField w f.place f.bits)
    (hrows : (rows32.all fun r => (⟨k, 1, 1⟩ :: fields).any fun f => !r.admits f) = true) :
    decodeWord c (.full w) = .error (.unimplemented32 w) :=
  decodeWord_of_fields (List.forall_mem_cons.mpr ⟨isField_bit hbit, hw⟩) hrows

/-- Settles O4, format by format: LD32, ST32, LRW32, MFCR32, MTCR32. -/
theorem registerFieldAbove15IsIllegal : Obligations.RegisterFieldAbove15IsIllegal := by
  intro c w h
  rcases h with ⟨hop | hop, hbit | hbit⟩ | ⟨hop, hbit⟩ | ⟨hop, hsub, hbit⟩ | ⟨hop, hsub, hbit⟩
  case inl.inl.inl | inl.inl.inr | inl.inr.inl | inl.inr.inr =>
    exact decodeWord_of_fifth_bit hbit (fields := [⟨26, 6, _⟩]) (List.forall_mem_singleton.mpr hop) (by decide)
  case inr.inl =>
    exact decodeWord_of_fifth_bit hbit (fields := [⟨21, 11, _⟩]) (List.forall_mem_singleton.mpr hop) (by decide)
  case inr.inr.inl | inr.inr.inr =>
    exact decodeWord_of_fifth_bit hbit (fields := [⟨26, 6, _⟩, ⟨5, 11, _⟩])
      (List.forall_mem_cons.mpr ⟨hop, List.forall_mem_singleton.mpr hsub⟩) (by decide)

/-- Settles O5. -/
theorem exampleWordsDecode : Obligations.ExampleWordsDecode := by
  unfold Obligations.ExampleWordsDecode
  decide

end Sys2Proof

/-! PROOFS. What an instruction can do to the control registers (44_privileged_special.md R340 to R342), said once for every
instruction; and that no step changes the implementation parameters (10_state.md R58, R60 to R62). -/

namespace Sys2Proof.Machine

/-! The ways an instruction answers a next state -/

/-- The instruction is one of a program in either mode, and left the control registers alone; or it raised an exception,
and nothing but memory had changed before; or it is a system instruction in supervisor mode. -/
inductive Effect (s t : State) : Prop
  | program (control : KeepsControl s t) (runState : t.runState = s.runState)
  | exception (m : Memory) (entered : Entered s.pc (s.setMem m) t)
  | system (super : s.psr.s = true) (cfg : t.cfg = s.cfg)

theorem Effect.cfg_eq {s t : State} (h : Effect s t) : t.cfg = s.cfg := by
  cases h with
  | program hc _ => exact hc.cfg
  | exception _ he => exact he.cfg
  | system _ hc => exact hc

/-- Whatever next state the outcome answers is reached in one of these ways. -/
def HasEffect (s : State) (o : Out) : Prop := ∀ t, o = .next t → Effect s t

theorem hasEffect_next {s t : State} (h : KeepsControl s t) (hr : t.runState = s.runState) : HasEffect s (.next t) := by
  intro u hu
  cases hu
  exact .program h hr

theorem hasEffect_takeException (e : Exc) (s : State) : HasEffect s (takeException e s) :=
  fun _ ht => .exception s.mem (takeException_next ht)

theorem hasEffect_takeException_setMem (e : Exc) (s : State) (m : Memory) : HasEffect s (takeException e (s.setMem m)) :=
  fun _ ht => .exception m (takeException_next ht)

theorem hasEffect_finish {s : State} {r : Res State} (hok : ∀ t, r = .ok t → KeepsControl s t ∧ t.runState = s.runState)
    (hraise : ∀ e u, r = .raise e u → ∃ m, u = s.setMem m) : HasEffect s (finish r) := by
  intro t ht
  rcases finish_next ht with hr | ⟨e, u, hr, hu⟩
  · obtain ⟨hc, hrun⟩ := hok t hr
    exact .program hc hrun
  · obtain ⟨m, rfl⟩ := hraise e u hr
    exact hasEffect_takeException_setMem e s m t hu

theorem hasEffect_privileged {s : State} {k : Out} (hk : ∀ t, k = .next t → t.cfg = s.cfg) :
    HasEffect s (privileged s k) := by
  unfold privileged
  split
  next hs => exact fun t ht => .system hs (hk t ht)
  next => exact hasEffect_takeException _ s

/-! The ends of the instructions of a program -/

theorem hasEffect_writeBack (s : State) (n : Reg) (v ilen : Word) : HasEffect s (writeBack n v ilen s) :=
  hasEffect_next (by constructor <;> rfl) rfl

theorem hasEffect_writeBack_setC (s : State) (b : Bool) (n : Reg) (v ilen : Word) :
    HasEffect s (writeBack n v ilen (s.setC b)) := hasEffect_next (by constructor <;> rfl) rfl

theorem hasEffect_writeFlag (s : State) (b : Bool) : HasEffect s (writeFlag b s) :=
  hasEffect_next (by constructor <;> rfl) rfl

theorem hasEffect_advance (s : State) (ilen : Word) : HasEffect s (.next (s.advance ilen)) :=
  hasEffect_next (by constructor <;> rfl) rfl

theorem hasEffect_jump (s : State) (a : Word) : HasEffect s (.next (s.jump a)) :=
  hasEffect_next (by constructor <;> rfl) rfl

theorem hasEffect_linkAndJump (s : State) (link a : Word) : HasEffect s (.next ((s.setReg lr link).jump a)) :=
  hasEffect_next (by constructor <;> rfl) rfl

theorem hasEffect_loadTo (s : State) (n : Reg) (sz : Size) (a ilen : Word) : HasEffect s (loadTo n sz a ilen s) := by
  intro t ht
  rcases loadTo_next ht with rfl | he
  · exact .program (by constructor <;> rfl) rfl
  · exact .exception s.mem he

theorem hasEffect_storeFrom (s : State) (v : Word) (sz : Size) (a ilen : Word) :
    HasEffect s (storeFrom v sz a ilen s) := by
  intro t ht
  rcases storeFrom_next ht with rfl | he
  · exact .program (by constructor <;> rfl) rfl
  · exact .exception s.mem he

theorem hasEffect_pushRegs (s : State) (rs : List Reg) :
    HasEffect s (finish ((pushRegs rs s).map fun t => t.advance 2)) := by
  refine hasEffect_finish (fun t ht => ?_) (fun e u hu => ?_)
  · obtain ⟨u, hu, rfl⟩ := Res.map_eq_ok ht
    obtain ⟨_, _, rfl⟩ := pushRegs_eq_ok.mp hu
    exact ⟨by constructor <;> rfl, rfl⟩
  · obtain ⟨_, _, _, rfl⟩ := pushRegs_eq_raise (Res.map_eq_raise hu)
    exact ⟨_, rfl⟩

/-- The loads from the stack, where what follows them keeps the control registers. -/
theorem hasEffect_popRegs (s : State) (rs : List Reg) {k : State → State}
    (hk : ∀ r : Regs, KeepsControl s (k { s with regs := r }) ∧ (k { s with regs := r }).runState = s.runState) :
    HasEffect s (finish ((popRegs rs s).map k)) := by
  refine hasEffect_finish (fun t ht => ?_) (fun e u hu => ?_)
  · obtain ⟨u, hu, rfl⟩ := Res.map_eq_ok ht
    obtain ⟨_, _, rfl⟩ := popRegs_eq_ok.mp hu
    obtain ⟨r, hr⟩ := setRegs_eq s rs (wordsAt s (s.reg sp) rs.length)
    rw [hr]
    exact hk _
  · exact ⟨s.mem, popRegs_eq_raise (Res.map_eq_raise hu)⟩

theorem hasEffect_idly (s : State) (imm5 : BitVec 5) : HasEffect s (execIdly32 imm5 s) := by
  refine hasEffect_next ?_ ?_
  all_goals split
  · constructor <;> rfl
  · constructor <;> rfl
  · rfl
  · rfl

/-! System instructions keep the parameters -/

theorem cfg_of_takeException {e : Exc} {s t : State} (h : takeException e s = .next t) : t.cfg = s.cfg :=
  (takeException_next h).cfg

theorem cfg_of_resetMachine {s t : State} (h : resetMachine s = .next t) : t.cfg = s.cfg := by
  rcases vectorTo_next h with ⟨w, rfl⟩ | ⟨w, rfl⟩ | rfl <;> rfl

theorem cfg_of_finish {s t : State} {r : Res State} (h : finish r = .next t) (hok : ∀ u, r = .ok u → u.cfg = s.cfg)
    (hraise : ∀ e u, r = .raise e u → u.cfg = s.cfg) : t.cfg = s.cfg := by
  rcases finish_next h with hr | ⟨e, u, hr, hu⟩
  · exact hok t hr
  · exact (cfg_of_takeException hu).trans (hraise e u hr)

theorem hasEffect_execMtcr32 (s : State) (rx : BitVec 4) (crz sel : BitVec 5) :
    HasEffect s (execMtcr32 rx crz sel s) := by
  refine hasEffect_privileged fun t ht => ?_
  split at ht
  · split at ht
    · exact cfg_of_resetMachine ht
    · exact cfg_of_takeException ht
  · refine cfg_of_finish ht (fun u hu => ?_) (fun e u hu => ?_)
    · obtain ⟨w, hw, rfl⟩ := Res.map_eq_ok hu
      exact (writeCr_frame hw).1
    · exact absurd (Res.map_eq_raise hu) (writeCr_ne_raise _ _ _ _ _ _)

theorem hasEffect_execNie16 (s : State) : HasEffect s (execNie16 s) := by
  refine hasEffect_privileged fun t ht => cfg_of_finish ht (fun u hu => ?_) (fun e u hu => ?_)
  · obtain ⟨_, _, hu⟩ := Res.andThen_eq_ok hu
    obtain ⟨w, hw, rfl⟩ := Res.map_eq_ok hu
    obtain ⟨_, rfl⟩ := storeWords_eq_ok.mp hw
    rfl
  · rcases alignedSp_cases s with ⟨_, ha⟩ | ⟨_, ha⟩ <;> rw [ha] at hu
    · obtain ⟨_, _, _, _, _, _, rfl⟩ := storeWords_eq_raise (Res.map_eq_raise hu)
      rfl
    · cases hu
      rfl

theorem hasEffect_execNir16 (s : State) : HasEffect s (execNir16 s) := by
  refine hasEffect_privileged fun t ht => cfg_of_finish ht (fun u hu => ?_) (fun e u hu => ?_)
  · obtain ⟨_, _, hu⟩ := Res.andThen_eq_ok hu
    obtain ⟨vs, _, rfl⟩ := Res.map_eq_ok hu
    obtain ⟨p, w, hn⟩ := nestRestore_eq s vs
    rw [hn]
    rfl
  · rcases alignedSp_cases s with ⟨_, ha⟩ | ⟨_, ha⟩ <;> rw [ha] at hu
    · rw [(loadWords_eq_raise (Res.map_eq_raise hu)).1]
    · cases hu
      rfl

/-! Every instruction -/

theorem hasEffect_exec (i : Instr) (s : State) : HasEffect s (exec i s) := by
  cases i
  case addi16SpSp | subi16SpSp | addi16RzSp | addi16Oimm8 | subi16Oimm8 | movi16 | bclri16 | bseti16 | lsli16 | lsri16 |
      asri16 | addu16RzRxRy | subu16RzRxRy | addi16Oimm3 | subi16Oimm3 | addu16RzRx | subu16RzRx | mvcv16 | and16 |
      andn16 | or16 | xor16 | nor16 | mov16 | lsl16 | lsr16 | asr16 | rotl16 | zextb16 | zexth16 | sextb16 | sexth16 |
      mult16 =>
    exact hasEffect_writeBack s _ _ _
  case addc16 | subc16 => exact hasEffect_writeBack_setC s _ _ _ _
  case cmphsi16 | cmplti16 | cmpnei16 | btsti16 | cmphs16 | cmplt16 | cmpne16 | tst16 | tstnbz16 =>
    exact hasEffect_writeFlag s _
  case lrw16 | lrw32 | ld16b | ld16h | ld16w | ld16wSp | ld32b | ld32h | ld32w => exact hasEffect_loadTo s _ _ _ _
  case st16b | st16h | st16w | st16wSp | st32b | st32h | st32w => exact hasEffect_storeFrom s _ _ _ _
  case br16 | br32 | jmp16 => exact hasEffect_jump s _
  case bt16 offset =>
    rw [exec_bt16]
    split
    · exact hasEffect_jump s _
    · exact hasEffect_advance s _
  case bf16 offset =>
    rw [exec_bf16]
    split
    · exact hasEffect_advance s _
    · exact hasEffect_jump s _
  case bsr32 | jsr16 => exact hasEffect_linkAndJump s _ _
  case push16 | push16List8 | ipush16 => exact hasEffect_pushRegs s _
  case pop16 | pop16List8 | ipop16 => exact hasEffect_popRegs s _ fun _ => ⟨by constructor <;> rfl, rfl⟩
  case sync32 => exact hasEffect_advance s _
  case idly32 imm5 => exact hasEffect_idly s imm5
  case trap32 | bkpt16 => exact hasEffect_takeException _ s
  case nie16 => exact hasEffect_execNie16 s
  case nir16 => exact hasEffect_execNir16 s
  case mtcr32 => exact hasEffect_execMtcr32 s _ _ _
  case rte32 | stop32 | wait32 | doze32 | mfcr32 | psrclr32 | psrset32 =>
    refine hasEffect_privileged fun t ht => ?_
    cases ht
    rfl

/-- Settles O17: in user mode an instruction is one of a program, or has raised an exception. -/
theorem userModeReachesNoControlRegister : Obligations.UserModeReachesNoControlRegister := by
  intro i s t hs ht
  cases hasEffect_exec i s t ht with
  | program hc hr => exact .inl ⟨hc, hr⟩
  | exception m he =>
    exact .inr ⟨he.super, he.ee, he.ie, he.epc, fun k => congrArg (fun r : Regs => r.get k) he.regs, he.cfg, he.gcr,
      he.mp, he.capr, he.pacr, he.rid, he.iae⟩
  | system hsup _ => exact absurd (hs.symm.trans hsup) Bool.false_ne_true

/-! The boundary -/

/-- What follows the boundary keeps the parameters. -/
def PlanKeepsCfg (c : Config) : Plan → Prop
  | .stop o => ∀ t, o = .next t → t.cfg = c
  | .run _ t => t.cfg = c

theorem planKeepsCfg_refused (c : Config) (r : Refusal) : PlanKeepsCfg c (.stop (.refused r)) := fun _ ht => nomatch ht

theorem planKeepsCfg_fetchPlan (s : State) : PlanKeepsCfg s.cfg (fetchPlan s) := by
  unfold fetchPlan
  split
  next e t hf => rw [fetchInstr_eq_raise hf]; exact fun _ ht => cfg_of_takeException ht
  next r _ => exact planKeepsCfg_refused _ r
  next w _ =>
    split
    · exact fun _ ht => cfg_of_takeException ht
    · rfl

theorem planKeepsCfg_unlessAccelerated {s : State} {p : Plan} {c : Config} (hp : PlanKeepsCfg c p) :
    PlanKeepsCfg c (unlessAccelerated s p) := by
  unfold unlessAccelerated
  split
  · exact planKeepsCfg_refused _ _
  · exact hp

theorem planKeepsCfg_idlePlan (s : State) : PlanKeepsCfg s.cfg (idlePlan s) := by
  unfold idlePlan
  split
  next => exact planKeepsCfg_unlessAccelerated (planKeepsCfg_fetchPlan s)
  next => exact fun _ ht => nomatch ht
  all_goals
    refine planKeepsCfg_unlessAccelerated fun t ht => ?_
    cases ht
    rfl

theorem planKeepsCfg_requestPlan (v : BitVec 8) (s : State) : PlanKeepsCfg s.cfg (requestPlan v s) := by
  unfold requestPlan
  split
  · exact fun _ ht => nomatch ht
  split
  · exact planKeepsCfg_refused _ _
  refine planKeepsCfg_unlessAccelerated ?_
  unfold interruptPlan
  split
  · exact fun _ ht => (exceptionEntry_next ht).cfg
  · exact planKeepsCfg_fetchPlan s.wake

theorem planKeepsCfg_boundaryPlan (inp : Input) (s : State) : PlanKeepsCfg s.cfg (boundaryPlan inp s) := by
  unfold boundaryPlan
  split
  · cases inp with
    | reset => exact fun _ ht => cfg_of_resetMachine ht
    | irq v => exact planKeepsCfg_requestPlan v s
    | idle => exact planKeepsCfg_idlePlan s
  · exact planKeepsCfg_refused _ _

/-- What an instruction answers is what its retirement answers, but for the IDLY counter. -/
theorem retire_next {n : Nat} {o : Out} {t : State} (h : retire n o = .next t) : ∃ u, o = .next u ∧ t = tickIdly n u := by
  cases o with
  | next u => cases h; exact ⟨u, rfl, rfl⟩
  | fault f => cases h
  | refused r => cases h

/-- Settles O16: the boundary keeps the parameters, and so does each way an instruction answers. -/
theorem stepKeepsConfiguration : Obligations.StepKeepsConfiguration := by
  intro s t ht
  have hp : PlanKeepsCfg s.cfg (boundaryPlan s.sample s.dropInput) := planKeepsCfg_boundaryPlan s.sample s.dropInput
  unfold step at ht
  split at ht
  next o ho => rw [ho] at hp; exact hp t ht
  next i u hu =>
    rw [hu] at hp
    obtain ⟨w, hw, rfl⟩ := retire_next ht
    rw [State.cfg_tickIdly, (hasEffect_exec i u w hw).cfg_eq]
    exact hp

end Sys2Proof.Machine

/-! PROOFS. Events at the boundary, low-power states and the terminal state (60_exceptions.md R418, R430 to R432, R460), and
what an exception entry leaves when its vector may be denied (R411, R418). -/

namespace Sys2Proof.Machine

/-! The boundary of a state with a given sample -/

theorem boundaryPlan_unsupported {s : State} (inp : Input) (h : s.cfg.supported = false) :
    boundaryPlan inp s = .stop (.refused .unsupportedConfig) :=
  if_neg (by rw [h]; exact Bool.false_ne_true)

/-- Nothing but a reset follows the terminal state (60_exceptions.md R418, log 20). -/
theorem boundaryPlan_stuck {s : State} {inp : Input} (hsup : s.cfg.supported = true) (hr : s.runState = .stuck)
    (hi : inp ≠ .reset) : boundaryPlan inp s = .stop (.fault .lockup) := by
  cases inp with
  | reset => exact absurd rfl hi
  | irq v =>
    rw [boundaryPlan_irq v hsup]
    exact if_pos hr
  | idle =>
    rw [boundaryPlan_idle hsup, idlePlan, hr]

theorem idlePlan_running {s : State} (hr : s.runState = .running) :
    idlePlan s = unlessAccelerated s (fetchPlan s) := by
  rw [idlePlan, hr]

/-- A stopped clock stays stopped without an event (60_exceptions.md R460). -/
theorem idlePlan_lowPower {s : State} (hr : s.runState = .wait ∨ s.runState = .doze ∨ s.runState = .stop) :
    idlePlan s = unlessAccelerated s (.stop (.next s)) := by
  rcases hr with hr | hr | hr <;> rw [idlePlan, hr]

theorem requestPlan_of_legal {s : State} {v : BitVec 8} (hr : s.runState ≠ .stuck) (hv : 32 ≤ v.toNat) :
    requestPlan v s = unlessAccelerated s (interruptPlan v s.wake) := by
  rw [requestPlan, if_neg hr, if_neg (Nat.not_lt.mpr hv)]

theorem wake_of_running {s : State} (h : s.runState = .running) : s.wake = s := by
  rw [State.wake, ← h]

theorem acceptsInterrupt_of_masked {s : State} (h : s.psr.ie = false ∨ s.psr.ee = false ∨ s.idlyCnt ≠ 0) :
    acceptsInterrupt s = false := by
  rcases h with h | h | h <;> simp [acceptsInterrupt, h]

/-- A masked request in a running core leaves the boundary as it is without an event (60_exceptions.md R432). -/
theorem requestPlan_of_masked {s : State} {v : BitVec 8} (hr : s.runState = .running) (hv : 32 ≤ v.toNat)
    (hm : s.psr.ie = false ∨ s.psr.ee = false ∨ s.idlyCnt ≠ 0) : requestPlan v s = idlePlan s := by
  rw [requestPlan_of_legal (by rw [hr]; decide) hv, wake_of_running hr, interruptPlan, acceptsInterrupt_of_masked hm,
    if_neg Bool.false_ne_true, idlePlan_running hr]

/-- Settles O10: both samples leave the same state, and plan the same boundary there. -/
theorem maskedInterruptIsIgnored : Obligations.MaskedInterruptIsIgnored := by
  intro s v rest hin hv hr hm
  have hplan : boundaryPlan (.irq v) s.dropInput = boundaryPlan .idle s.dropInput := by
    cases hsup : s.cfg.supported with
    | false => rw [boundaryPlan_unsupported (s := s.dropInput) _ hsup, boundaryPlan_unsupported (s := s.dropInput) _ hsup]
    | true =>
      rw [boundaryPlan_irq (s := s.dropInput) v hsup, boundaryPlan_idle (s := s.dropInput) hsup]
      exact requestPlan_of_masked (s := s.dropInput) hr hv hm
  have hdrop : State.dropInput { s with inputs := .idle :: rest } = s.dropInput := (dropInput_of_cons hin).symm
  rw [step, step, hdrop, sample_of_cons hin, sample_of_cons (rest := rest) rfl, hplan]

/-- A request finds a low-power state as it finds a running core (60_exceptions.md R460). -/
theorem requestPlan_wake {s : State} (v : BitVec 8) (hr : s.runState ≠ .stuck) :
    requestPlan v s = requestPlan v s.wake := by
  have hwake : s.wake.runState ≠ .stuck := fun h => nomatch h
  rw [requestPlan, requestPlan, if_neg hr, if_neg hwake]
  rfl

/-- Settles O11. -/
theorem lowPowerStateWaitsForARequest : Obligations.LowPowerStateWaitsForARequest := by
  intro s hr
  refine ⟨fun hsup hiae hidle => ?waits, fun v rest hin => ?wakes⟩
  case waits =>
    refine step_of_stop ?_
    rw [hidle, boundaryPlan_idle (s := s.dropInput) hsup, idlePlan_lowPower (s := s.dropInput) hr,
      unlessAccelerated_of_false _ (s := s.dropInput) hiae]
    rfl
  case wakes =>
    have hstuck : s.runState ≠ .stuck := by
      rcases hr with hr | hr | hr <;> rw [hr] <;> decide
    have hplan : boundaryPlan (.irq v) s.dropInput = boundaryPlan (.irq v) s.dropInput.wake := by
      simp only [boundaryPlan]
      rw [requestPlan_wake (s := s.dropInput) v hstuck]
      rfl
    rw [step, step, sample_of_cons hin, sample_of_cons (s := { s with runState := .running }) hin, hplan]
    rfl

/-! Refused settings -/

theorem requestPlan_of_reserved {s : State} {v : BitVec 8} (hr : s.runState ≠ .stuck) (hv : v.toNat < 32) :
    requestPlan v s = .stop (.refused .irqVectorReserved) := by
  rw [requestPlan, if_neg hr, if_pos hv]

/-- With CHR.IAE = 1 no boundary but a reset's goes on (10_state.md R75, log 12). -/
theorem boundaryPlan_accelerated {s : State} {inp : Input} (hsup : s.cfg.supported = true) (hr : s.runState ≠ .stuck)
    (hiae : s.iae = true) (hi : inp ≠ .reset) (hv : ∀ v, inp = .irq v → 32 ≤ v.toNat) :
    boundaryPlan inp s = .stop (.refused .acceleratedInterrupt) := by
  cases inp with
  | reset => exact absurd rfl hi
  | irq v => rw [boundaryPlan_irq v hsup, requestPlan_of_legal hr (hv v rfl), unlessAccelerated_of_true _ hiae]
  | idle =>
    rw [boundaryPlan_idle hsup, idlePlan]
    split
    case h_2 hstuck => exact absurd hstuck hr
    all_goals exact unlessAccelerated_of_true _ hiae

/-! Exception entry, whatever happens to the vector fetch -/

/-- C after an entry: as it was but for an exception in an IDLY sequence, and EPSR has the same (44_privileged_special.md
R352, decision D32). -/
theorem flag_of_exceptionEntry {v : BitVec 8} {q : Bool} {ret : Word} {s t : State}
    (h : exceptionEntry v q ret s = .next t) :
    t.psr.c = (s.psr.c || (decide (0 < s.idlyCnt) && !q)) ∧ t.epsr.c = t.psr.c := by
  rcases vectorTo_next h with ⟨w, rfl⟩ | ⟨w, rfl⟩ | rfl
  · simp
  · simp [savedTwice]
  · simp [savedTwice]

/-- Settles O20. -/
theorem exceptionEntryLeavesTheRest : Obligations.ExceptionEntryLeavesTheRest := by
  intro s t v isIrq ret h
  obtain ⟨hc, hec⟩ := flag_of_exceptionEntry h
  have he := exceptionEntry_next h
  refine ⟨fun k => congrArg (fun r : Regs => r.get k) he.regs, he.mm, he.ic, fun hout => ?flag, hec, he.mem, he.cfg,
    he.gcr, he.mp, he.capr, he.pacr, he.rid, he.iae, he.epc⟩
  case flag =>
    rw [hc]
    rcases hout with h0 | hq
    · simp [h0]
    · simp [hq]

theorem vectorWord_of_deny {s : State} {v : BitVec 8} (h : accessVerdict s .fetch true (vectorAddr v) 4 = .deny) :
    vectorWord s v = .raise .accessError s := by
  simp only [vectorWord, setWidth_shiftLeft_two, h]

theorem vectorWord_of_readable {s : State} {v : BitVec 8} (h : VectorReadable s v) :
    vectorWord s v = .ok (s.mem.readWord s.cfg.endian (vectorAddr v)) := by
  rw [VectorReadable] at h
  simp only [vectorWord, setWidth_shiftLeft_two, h]

/-- The state an entry leaves when its vector word is denied: the context is saved again for vector 8 (60_exceptions.md
R418). -/
theorem exceptionEntry_of_deny {v : BitVec 8} {q : Bool} {ret : Word} {s : State}
    (h : accessVerdict s .fetch true (vectorAddr (effectiveVector v q s)) 4 = .deny) :
    exceptionEntry v q ret s = vectorFault (saveContext (effectiveVector v q s) q ret s) := by
  rw [exceptionEntry, vectorTo, vectorWord_of_deny (s := saveContext (effectiveVector v q s) q ret s) h]

/-- Settles O21. -/
theorem deniedVectorFetchIsUnrecoverable : Obligations.DeniedVectorFetchIsUnrecoverable := by
  refine ⟨fun s v isIrq ret hd => ⟨fun h8 => ?unrecoverable, fun h8 => ?terminal⟩, fun s hsup hr hi => ?stays⟩
  case unrecoverable =>
    rw [exceptionEntry_of_deny hd, vectorFault,
      vectorWord_of_readable (s := saveContext 8 false _ (saveContext _ isIrq ret s)) h8]
    exact ⟨_, rfl, rfl, rfl, rfl, rfl, rfl, rfl, rfl, rfl⟩
  case terminal =>
    rw [exceptionEntry_of_deny hd, vectorFault,
      vectorWord_of_deny (s := saveContext 8 false _ (saveContext _ isIrq ret s)) h8]
    exact ⟨_, rfl, rfl, rfl⟩
  case stays => exact step_of_stop (boundaryPlan_stuck (s := s.dropInput) hsup hr hi)

/-! Return from an exception -/

/-- An address with bit 0 clear is what dropping bit 0 leaves of it. -/
theorem evenAddr_of_even {a : Word} (h : a.getLsbD 0 = false) : evenAddr a = a := by
  apply BitVec.eq_of_getLsbD_eq
  intro j hj
  rw [evenAddr, show (0xFFFFFFFE : Word) = ~~~1#32 from rfl, BitVec.getLsbD_and, BitVec.getLsbD_not, BitVec.getLsbD_one]
  rcases Nat.eq_zero_or_pos j with rfl | hpos
  · rw [h, Bool.false_and]
  · simp [hj, hpos.ne']

/-- Settles O51. -/
theorem returnUndoesExceptionEntry : Obligations.ReturnUndoesExceptionEntry := by
  intro s t v isIrq heven took
  have hsup : t.psr.s = true := by rw [took.psr]
  obtain ⟨u, hu, hpsr, hpc, hidly, hregs, hmem, _⟩ := returnFromExceptionResults t hsup
  refine ⟨u, hu, ?_, hpsr.trans took.epsr, fun k => (hregs k).trans (took.regs k), fun a => (hmem a).trans (took.mem a),
    hidly⟩
  rw [hpc, took.epc]
  exact evenAddr_of_even heven

end Sys2Proof.Machine

/-! PROOFS. The region that decides (20_memory.md R121, R122), disabled regions (10_state.md R71), and the settings a model
refuses (93_implementation_defined.md section 1). -/

namespace Sys2Proof.Machine

/-! The search for the deciding region -/

/-- A region that is missed is passed over. -/
theorem consult_cons_of_misses {pacr : Vector Pacr 8} {a : Word} {n : Fin 8} (rest : List (Fin 8))
    (h : RegionMisses pacr[n.val] a) : consult pacr a (n :: rest) = consult pacr a rest := by
  rcases h with hoff | ⟨hsize, hout⟩
  · simp [consult, hoff]
  · have hc : (pacr[n.val]).contains a = false := Bool.eq_false_iff.mpr fun hc => hout (contains_eq_true_iff.mp hc)
    simp [consult, reservedSize_eq_false hsize, hc]

theorem consult_cons_of_matches {pacr : Vector Pacr 8} {a : Word} {n : Fin 8} (rest : List (Fin 8))
    (h : RegionMatches pacr[n.val] a) : consult pacr a (n :: rest) = .decides n := by
  obtain ⟨hon, hsize, hin⟩ := h
  simp [consult, hon, reservedSize_eq_false hsize, contains_eq_true_iff.mpr hin]

theorem consult_cons_of_reserved {pacr : Vector Pacr 8} {a : Word} {n : Fin 8} (rest : List (Fin 8))
    (hon : pacr[n.val].e = true) (hsize : pacr[n.val].size.toNat ≤ 8) : consult pacr a (n :: rest) = .reserved := by
  simp [consult, hon, Pacr.reservedSize, hsize]

/-- In falling order, a region is reached when all the higher ones are missed. -/
theorem exists_consult_cons {pacr : Vector Pacr 8} {a : Word} {n : Fin 8} {order : List (Fin 8)}
    (hfall : order.Pairwise (· > ·)) (hn : n ∈ order) (hmiss : ∀ k ∈ order, n.val < k.val → RegionMisses pacr[k.val] a) :
    ∃ rest, consult pacr a order = consult pacr a (n :: rest) := by
  induction order with
  | nil => cases hn
  | cons k order ih =>
    obtain ⟨hk, hfall⟩ := List.pairwise_cons.mp hfall
    rcases List.mem_cons.mp hn with rfl | hn
    · exact ⟨order, rfl⟩
    · rw [consult_cons_of_misses order (hmiss k List.mem_cons_self (hk n hn))]
      exact ih hfall hn fun j hj => hmiss j (List.mem_cons_of_mem k hj)

/-- The regions are consulted from the highest on (20_memory.md R121). -/
theorem pairwise_regionOrder (regions : Fin 9) : (regionOrder regions).Pairwise (· > ·) :=
  List.Pairwise.filter _ (by decide)

theorem mem_regionOrder {regions : Fin 9} {n : Fin 8} (h : n.val < regions.val) : n ∈ regionOrder regions := by
  have hall : ∀ k : Fin 8, k ∈ ([7, 6, 5, 4, 3, 2, 1, 0] : List (Fin 8)) := by decide
  exact List.mem_filter.mpr ⟨hall n, decide_eq_true h⟩

/-- What the search finds is decided at the first region that is not missed. -/
theorem consult_regionOrder {pacr : Vector Pacr 8} {a : Word} {n : Fin 8} {regions : Fin 9} (hn : n.val < regions.val)
    (hmiss : ∀ k : Fin 8, n.val < k.val → k.val < regions.val → RegionMisses pacr[k.val] a) :
    ∃ rest, consult pacr a (regionOrder regions) = consult pacr a (n :: rest) :=
  exists_consult_cons (pairwise_regionOrder regions) (mem_regionOrder hn)
    fun k hk hlt => hmiss k hlt (lt_of_mem_regionOrder hk)

/-! The verdict of the deciding region -/

theorem mpuVerdict_of_decides {s : State} {kind : AccessKind} {super : Bool} {a : Word} {n : Fin 8} (hmp : s.mp = 1)
    (hr : s.cfg.mpuRegions ≠ 0) (h : consult s.pacr a (regionOrder s.cfg.mpuRegions) = .decides n) :
    mpuVerdict s kind super a =
      if apAllows super kind (s.ap n) && !(decide (kind = .fetch) && s.nonExec n) then .permit else .deny := by
  simp [mpuVerdict, hmp, hr, h]

theorem mpuVerdict_of_reserved {s : State} {kind : AccessKind} {super : Bool} {a : Word} (hmp : s.mp = 1)
    (hr : s.cfg.mpuRegions ≠ 0) (h : consult s.pacr a (regionOrder s.cfg.mpuRegions) = .reserved) :
    mpuVerdict s kind super a = .refuse .reservedRegionSize := by
  simp [mpuVerdict, hmp, hr, h]

/-- A region below the number of regions exists, so there is an MPU. -/
theorem regions_ne_zero {regions : Fin 9} {n : Fin 8} (h : n.val < regions.val) : regions ≠ 0 := by
  rintro rfl
  exact Nat.not_lt_zero _ h

/-- The access permission table (10_state.md R67, 20_memory.md R122). -/
theorem apAllows_iff {super : Bool} {kind : AccessKind} {ap : BitVec 2} : apAllows super kind ap = true ↔
    if super then ap ≠ 0 else if kind = .write then ap = 3 else ap = 2 ∨ ap = 3 := by
  cases super <;> cases kind <;> simp [apAllows]

theorem permissionAllows_iff {super : Bool} {kind : AccessKind} {ap : BitVec 2} {x : Bool} :
    (apAllows super kind ap && !(decide (kind = .fetch) && x)) = true ↔ PermissionAllows super kind ap x := by
  simp only [Bool.and_eq_true, apAllows_iff, PermissionAllows, Bool.not_eq_true', Bool.and_eq_false_imp, decide_eq_true_eq,
    not_and, Bool.not_eq_true]

/-- Settles O29: the search stops at the highest region that matches, and its fields are looked up in the table. -/
theorem highestMatchingRegionDecides : Obligations.HighestMatchingRegionDecides := by
  intro s kind super a n hmp hn hmatch hmiss
  obtain ⟨rest, hc⟩ := consult_regionOrder hn hmiss
  rw [consult_cons_of_matches rest hmatch] at hc
  rw [mpuVerdict_of_decides hmp (regions_ne_zero hn) hc, ← permissionAllows_iff]
  exact ⟨fun h => if_pos h, fun h => if_neg h⟩

/-! Disabled regions -/

theorem consult_of_disabled {pacr : Vector Pacr 8} {n : Fin 8} {p : Pacr} (hoff : pacr[n.val].e = false)
    (hp : p.e = false) (a : Word) (order : List (Fin 8)) :
    consult (pacr.set n.val p n.isLt) a order = consult pacr a order := by
  induction order with
  | nil => rfl
  | cons k rest ih =>
    by_cases hk : k = n
    · subst hk
      rw [consult_cons_of_misses rest (.inl hoff), consult_cons_of_misses rest (.inl (by simp [hp])), ih]
    · have hne : n.val ≠ k.val := fun h => hk (Fin.ext h.symm)
      simp only [consult, Vector.getElem_set_ne _ _ hne, ih]

/-- Settles O31: the search passes over the region, whatever it holds. -/
theorem disabledRegionHasNoEffect : Obligations.DisabledRegionHasNoEffect := by
  intro s n p kind super a hoff hp
  simp only [mpuVerdict, consult_of_disabled hoff hp]
  rfl

/-- Settles O12, clause by clause: byte order, vector, CHR.IAE, CCR.MP, region size. -/
theorem undefinedSettingsAreRefused : Obligations.UndefinedSettingsAreRefused := by
  refine ⟨fun s hbig hv2 => ?byteOrder, fun s v rest hsup hin hr hv => ?vector, fun s hsup hr hiae hi hv => ?accelerated,
    fun s kind super a hr hmp => ?reservedMp, fun s kind super a n hmp hn hon hsize hmiss => ?reservedSize⟩
  case byteOrder =>
    have hsup : s.cfg.supported = false := by rw [Config.supported, hbig]; exact hv2
    exact step_of_stop (boundaryPlan_unsupported (s := s.dropInput) _ hsup)
  case vector =>
    refine step_of_stop ?_
    rw [sample_of_cons hin, boundaryPlan_irq (s := s.dropInput) v hsup]
    exact requestPlan_of_reserved (s := s.dropInput) hr hv
  case accelerated => exact step_of_stop (boundaryPlan_accelerated (s := s.dropInput) hsup hr hiae hi hv)
  case reservedMp =>
    have hne : s.mp ≠ 0 := by
      intro h
      rw [h] at hmp
      exact absurd hmp (by decide)
    rw [mpuVerdict, if_neg (not_or.mpr ⟨hr, hne⟩), if_pos hmp]
  case reservedSize =>
    obtain ⟨rest, hc⟩ := consult_regionOrder hn hmiss
    rw [consult_cons_of_reserved rest hon hsize] at hc
    exact mpuVerdict_of_reserved hmp (regions_ne_zero hn) hc

end Sys2Proof.Machine

/-! PROOFS. The system instructions with their frames, and the control registers they reach (44_privileged_special.md R343 to
R356, 10_state.md sections 4 and 8). -/

namespace Sys2Proof.Machine

/-! The state after reset -/

/-- Settles O14. -/
theorem resetStateSatisfiesInvariant : Obligations.ResetStateSatisfiesInvariant where
  pcEven := rfl
  memWf := rfl
  idlyBound := Nat.zero_le 32
  mpLegal := rfl
  mpAbsent _ := rfl
  caprMasked := by decide
  pacrAbsent := by decide
  ridAbsent _ := rfl
  iaeAbsent _ := rfl
  gcrAbsent _ := rfl
  windowBound := Nat.zero_le _
  idlyRunning _ := rfl
  stoppedSuper _ := rfl

/-- Settles O18. -/
theorem resetStateReadsAsTheSpecSays : Obligations.ResetStateReadsAsTheSpecSays :=
  ⟨rfl, rfl, rfl, by decide, rfl, by decide⟩

/-! PSR, the low-power states and the IDLY sequence -/

/-- Settles O57. -/
theorem psrSetAndClearResults : Obligations.PsrSetAndClearResults := by
  intro s imm5 hs
  exact ⟨⟨_, privileged_super hs, Bool.or_comm _ _, Bool.or_comm _ _, rfl⟩,
    ⟨_, privileged_super hs, Bool.and_comm _ _, Bool.and_comm _ _, rfl⟩⟩

/-- Entering a low-power state changes the run state, the IDLY counter and the pc. -/
theorem completes_enterLowPower {i : Instr} {s : State} {r : RunState} (hexec : exec i s = .next (enterLowPower r s)) :
    Completes i s fun t => t.runState = r ∧ t.idlyCnt = 0 ∧ t.pc = s.pc + 4 ∧ t.psr = s.psr ∧
      (∀ k : Reg, t.reg k = s.reg k) ∧ (∀ a : Word, t.mem.read a = s.mem.read a) ∧
      SameSystem { s with runState := r, idlyCnt := 0 } t :=
  ⟨_, hexec, rfl, rfl, rfl, rfl, fun _ => rfl, fun _ => rfl, by constructor <;> rfl⟩

/-- Settles O58. -/
theorem lowPowerEntryResults : Obligations.LowPowerEntryResults := by
  intro s hs i r h
  rcases h with ⟨rfl, rfl⟩ | ⟨rfl, rfl⟩ | ⟨rfl, rfl⟩
  all_goals exact completes_enterLowPower (privileged_super hs)

/-- Settles O59: IDLY32 arms the counter where no sequence is open, and else goes on. -/
theorem interruptDelayResults : Obligations.InterruptDelayResults := by
  intro s imm5
  refine ⟨fun h0 => ?arms, fun h0 => ?inside⟩
  case arms =>
    have hexec : exec (.idly32 imm5) s = .next (State.advance { s.setC false with idlyCnt := idlyCount imm5 } 4) :=
      congrArg Host.Outcome.next (if_pos h0)
    exact ⟨_, hexec, rfl, rfl, rfl, fun _ => rfl, fun _ => rfl, by constructor <;> rfl⟩
  case inside =>
    have hexec : exec (.idly32 imm5) s = .next (s.advance 4) := congrArg Host.Outcome.next (if_neg h0)
    exact ⟨_, hexec, writesFlagAndPc_advance s 4⟩

/-- Settles O60. -/
theorem syncChangesThePcAlone : Obligations.SyncChangesThePcAlone := fun s =>
  ⟨decodeWord_encode (i := .sync32) rfl, _, rfl, writesFlagAndPc_advance s 4⟩

/-! MFCR32 and MTCR32 -/

/-- Settles O52. -/
theorem readControlRegisterResults : Obligations.ReadControlRegisterResults := fun _ _ _ _ hs =>
  completes_writeBack (privileged_super hs) rfl

/-- MTCR32 of a value that is no software-reset key is the write of the control register. -/
theorem exec_mtcr32_of_write {s t : State} {rx : BitVec 4} {crz sel : BitVec 5} (hs : s.psr.s = true)
    (hkey : isSoftResetWrite crz sel (s.reg rx) s = false) (hw : writeCr crz sel (s.reg rx) s = .ok t) :
    exec (.mtcr32 rx crz sel) s = .next (t.advance 4) := by
  refine (privileged_super hs).trans ?_
  rw [hkey, if_neg Bool.false_ne_true, hw]
  rfl

theorem exec_mtcr32_of_refuse {s : State} {rx : BitVec 4} {crz sel : BitVec 5} {r : Refusal} (hs : s.psr.s = true)
    (hkey : isSoftResetWrite crz sel (s.reg rx) s = false) (hw : writeCr crz sel (s.reg rx) s = .refuse r) :
    exec (.mtcr32 rx crz sel) s = .refused r := by
  refine (privileged_super hs).trans ?_
  rw [hkey, if_neg Bool.false_ne_true, hw]
  rfl

/-- The software-reset key is looked for in CHR alone. -/
theorem isSoftResetWrite_of_ne {n sel : BitVec 5} (h : sel ≠ 0 ∨ n ≠ 31) (v : Word) (s : State) :
    isSoftResetWrite n sel v s = false := by
  rcases h with h | h <;> rw [isSoftResetWrite, beq_eq_false_iff_ne.mpr h]
  · rfl
  · rw [Bool.and_false, Bool.false_and]

theorem isSoftResetWrite_of_value {n sel : BitVec 5} {v : Word} {s : State} (h : v.extractLsb' 16 16 ≠ s.cfg.srstMagic) :
    isSoftResetWrite n sel v s = false := by
  rw [isSoftResetWrite, beq_eq_false_iff_ne.mpr h, Bool.and_false]

/-! The write view, register by register (10_state.md section 4) -/

theorem writeCr_psr (v : Word) (s : State) : writeCr 0 0 v s = .ok { s with psr := Psr.ofImage v } := rfl

theorem writeCr_epsr (v : Word) (s : State) : writeCr 2 0 v s = .ok { s with epsr := Psr.ofImage v } := rfl

theorem writeCr_epc (v : Word) (s : State) : writeCr 4 0 v s = .ok { s with epc := v } := rfl

theorem writeCr_gcr (v : Word) (s : State) :
    writeCr 11 0 v s = .ok { s with gcr := if s.cfg.gcrGsrPresent then v else s.gcr } := by
  change Res.ok (if s.cfg.gcrGsrPresent then { s with gcr := v } else s) = _
  split <;> rfl

theorem writeCr_ccr {v : Word} {s : State} (hr : s.cfg.mpuRegions ≠ 0) (hv : v.getLsbD 1 = false) :
    writeCr 18 0 v s = .ok { s with mp := v.extractLsb' 0 2 } := by
  change writeCcr v s = _
  rw [writeCcr, if_neg hr, hv, if_neg Bool.false_ne_true]

theorem writeCr_ccr_reserved {v : Word} {s : State} (hr : s.cfg.mpuRegions ≠ 0) (hv : v.getLsbD 1 = true) :
    writeCr 18 0 v s = .refuse .reservedMp := by
  change writeCcr v s = _
  rw [writeCcr, if_neg hr, if_pos hv]

theorem writeCr_capr {s : State} (hr : s.cfg.mpuRegions ≠ 0) (v : Word) :
    writeCr 19 0 v s = .ok { s with capr := v &&& caprMask s.cfg.mpuRegions } := congrArg Res.ok (if_neg hr)

theorem writeCr_pacr {s : State} (hr : s.rid.toNat < s.cfg.mpuRegions.val) (v : Word) :
    writeCr 20 0 v s = .ok { s with pacr := s.pacr.set s.rid.toNat (Pacr.ofImage v) s.rid.isLt } :=
  congrArg Res.ok (if_pos hr)

/-- PACR has no effect where PRSR names no region (10_state.md R68). -/
theorem writeCr_pacr_absent {s : State} (hr : s.cfg.mpuRegions.val ≤ s.rid.toNat) (v : Word) : writeCr 20 0 v s = .ok s :=
  congrArg Res.ok (if_neg (Nat.not_lt.mpr hr))

theorem writeCr_prsr {s : State} (hr : s.cfg.mpuRegions ≠ 0) (v : Word) :
    writeCr 21 0 v s = .ok { s with rid := v.extractLsb' 0 3 } := congrArg Res.ok (if_neg hr)

theorem writeCr_chr {s : State} (hn : s.cfg.hasNestInt = true) (v : Word) :
    writeCr 31 0 v s = .ok { s with iae := v.getLsbD 4 } := congrArg Res.ok (if_pos hn)

theorem writeCr_chr_absent {s : State} (hn : s.cfg.hasNestInt = false) (v : Word) : writeCr 31 0 v s = .ok s :=
  congrArg Res.ok (if_neg (by rw [hn]; exact Bool.false_ne_true))

/-- Without an MPU its registers take no write (10_state.md R44). -/
theorem writeCr_mpu_absent {n : BitVec 5} {s : State} (hr : s.cfg.mpuRegions = 0) (hn : n.toNat ∈ [18, 19, 20, 21])
    (v : Word) : writeCr n 0 v s = .ok s := by
  have hcases : n = 18 ∨ n = 19 ∨ n = 20 ∨ n = 21 := by
    revert n
    decide
  rcases hcases with rfl | rfl | rfl | rfl
  · exact if_pos hr
  · exact congrArg Res.ok (if_pos hr)
  · exact writeCr_pacr_absent (by rw [hr]; exact Nat.zero_le _) v
  · exact congrArg Res.ok (if_pos hr)

/-- An unlisted number and a selector other than 0 take no write (decision D6, log 26). -/
theorem writeCr_unlisted {n sel : BitVec 5} (h : sel ≠ 0 ∨ n.toNat ∉ [0, 2, 4, 11, 18, 19, 20, 21, 31]) (v : Word)
    (s : State) : writeCr n sel v s = .ok s := by
  unfold writeCr
  split
  next => rfl
  next hsel =>
    have hn := h.resolve_left hsel
    split
    case h_10 => rfl
    all_goals
      next heq => exact absurd (heq ▸ hn) (by decide)

/-- Settles O54, register by register. -/
theorem writeControlRegisterResults : Obligations.WriteControlRegisterResults := by
  intro s rx hs
  have hkey := fun n (hn : n ≠ (31 : BitVec 5)) => isSoftResetWrite_of_ne (sel := 0) (.inr hn) (s.reg rx) s
  refine ⟨?psr, ?epsr, ?epc, fun hr hv => ?ccr, fun hr => ?capr, fun n hn hlt => ?pacr, fun hr => ?prsr,
    fun hnest hval => ?chr, fun hr hv => ?ccrReserved, ?gcr, fun crz hr hcrz => ?mpuAbsent, fun hr => ?pacrAbsent,
    fun hnest hval => ?chrAbsent, fun crz sel h => ?unlisted⟩
  case psr => exact exec_mtcr32_of_write hs (hkey 0 (by decide)) (writeCr_psr _ _)
  case epsr => exact exec_mtcr32_of_write hs (hkey 2 (by decide)) (writeCr_epsr _ _)
  case epc => exact exec_mtcr32_of_write hs (hkey 4 (by decide)) (writeCr_epc _ _)
  case ccr => exact exec_mtcr32_of_write hs (hkey 18 (by decide)) (writeCr_ccr hr hv)
  case capr => exact exec_mtcr32_of_write hs (hkey 19 (by decide)) (writeCr_capr hr _)
  case pacr =>
    simp only [← hn]
    exact exec_mtcr32_of_write hs (hkey 20 (by decide)) (writeCr_pacr (hn ▸ hlt) _)
  case prsr => exact exec_mtcr32_of_write hs (hkey 21 (by decide)) (writeCr_prsr hr _)
  case chr => exact exec_mtcr32_of_write hs (isSoftResetWrite_of_value hval) (writeCr_chr hnest _)
  case ccrReserved => exact exec_mtcr32_of_refuse hs (hkey 18 (by decide)) (writeCr_ccr_reserved hr hv)
  case gcr => exact exec_mtcr32_of_write hs (hkey 11 (by decide)) (writeCr_gcr _ _)
  case mpuAbsent =>
    have hne : crz ≠ 31 := by
      rintro rfl
      exact absurd hcrz (by decide)
    exact exec_mtcr32_of_write hs (hkey crz hne) (writeCr_mpu_absent hr hcrz _)
  case pacrAbsent => exact exec_mtcr32_of_write hs (hkey 20 (by decide)) (writeCr_pacr_absent hr _)
  case chrAbsent => exact exec_mtcr32_of_write hs (isSoftResetWrite_of_value hval) (writeCr_chr_absent hnest _)
  case unlisted =>
    have hnot : sel ≠ 0 ∨ crz ≠ 31 := h.imp_right fun hc he => hc (by rw [he]; decide)
    exact exec_mtcr32_of_write hs (isSoftResetWrite_of_ne hnot _ _) (writeCr_unlisted h _ _)

/-! The read view, register by register (10_state.md section 4) -/

theorem toNat_append_eq {p q : Nat} (x : BitVec p) (y : BitVec q) : (x ++ y).toNat = x.toNat * 2 ^ q + y.toNat := by
  rw [BitVec.toNat_append, ← Nat.shiftLeft_add_eq_or_of_lt y.isLt, Nat.shiftLeft_eq]

theorem toNat_image_psr (p : Psr) : p.image.toNat = p.s.toNat * 2 ^ 31 + p.vec.toNat * 2 ^ 16 + p.mm.toNat * 2 ^ 9 +
    p.ee.toNat * 2 ^ 8 + p.ic.toNat * 2 ^ 7 + p.ie.toNat * 2 ^ 6 + p.c.toNat := by
  simp only [Psr.image, toNat_append_eq, BitVec.toNat_ofBool, BitVec.toNat_ofNat]
  omega

theorem toNat_image_pacr (p : Pacr) : p.image.toNat = p.base.toNat * 2 ^ 10 + p.size.toNat * 2 + p.e.toNat := by
  simp only [Pacr.image, toNat_append_eq, BitVec.toNat_ofBool, BitVec.toNat_ofNat]
  omega

theorem toNat_ccrImage (s : State) : s.ccrImage.toNat = s.cfg.beV2.toNat * 2 ^ 13 + s.cfg.sck.toNat * 2 ^ 8 +
    (if s.cfg.endian = .big then 2 ^ 7 else 0) + (if s.cfg.mpuRegions = 0 then 0 else s.mp.toNat) := by
  have hbe : (s.cfg.endian == .big).toNat * 2 ^ 7 = if s.cfg.endian = .big then 2 ^ 7 else 0 := by
    cases s.cfg.endian <;> rfl
  have hmp : (if s.cfg.mpuRegions = 0 then 0#2 else s.mp).toNat = if s.cfg.mpuRegions = 0 then 0 else s.mp.toNat := by
    split <;> rfl
  simp only [State.ccrImage, toNat_append_eq, BitVec.toNat_ofBool, BitVec.toNat_ofNat, hmp, ← hbe]
  omega

theorem toNat_chrImage (s : State) : s.chrImage.toNat = s.iae.toNat * 2 ^ 4 := by
  simp only [State.chrImage, toNat_append_eq, BitVec.toNat_ofBool, BitVec.toNat_ofNat]
  omega

theorem readCr_psr (s : State) : readCr s 0 0 = s.psr.image := rfl

theorem readCr_epsr (s : State) : readCr s 2 0 = s.epsr.image := rfl

theorem readCr_gcr (s : State) : readCr s 11 0 = if s.cfg.gcrGsrPresent then s.gcr else 0 := rfl

theorem readCr_ccr (s : State) : readCr s 18 0 = s.ccrImage := rfl

theorem readCr_capr (s : State) : readCr s 19 0 = if s.cfg.mpuRegions = 0 then 0 else s.capr := rfl

theorem readCr_pacr {s : State} (hr : s.rid.toNat < s.cfg.mpuRegions.val) :
    readCr s 20 0 = (s.pacr[s.rid.toNat]'s.rid.isLt).image := if_pos hr

theorem readCr_pacr_absent {s : State} (hr : s.cfg.mpuRegions.val ≤ s.rid.toNat) : readCr s 20 0 = 0 :=
  if_neg (Nat.not_lt.mpr hr)

theorem readCr_prsr (s : State) : readCr s 21 0 = if s.cfg.mpuRegions = 0 then 0 else s.rid.setWidth 32 := rfl

theorem readCr_chr (s : State) : readCr s 31 0 = s.chrImage := rfl

theorem readCr_unlisted {n sel : BitVec 5} (h : sel ≠ 0 ∨ n.toNat ∉ [0, 2, 4, 11, 13, 18, 19, 20, 21, 31]) (s : State) :
    readCr s n sel = 0 := by
  unfold readCr
  split
  next => rfl
  next hsel =>
    have hn := h.resolve_left hsel
    split
    case h_11 => rfl
    all_goals
      next heq => exact absurd (heq ▸ hn) (by decide)

/-- Settles O53, register by register. -/
theorem controlRegisterViews : Obligations.ControlRegisterViews := by
  intro s
  refine ⟨toNat_image_psr _, toNat_image_psr _, rfl, rfl, fun hr => ⟨?ccr, if_neg hr, ?prsr⟩, fun n hn hlt => ?pacr,
    readCr_pacr_absent, toNat_chrImage s, fun n sel h => readCr_unlisted h s, fun hr => ⟨?ccrOff, if_pos hr, if_pos hr⟩,
    rfl⟩
  case ccr =>
    rw [readCr_ccr, toNat_ccrImage, if_neg hr]
  case prsr =>
    rw [readCr_prsr, if_neg hr]
    exact BitVec.toNat_setWidth_of_le (by decide)
  case pacr =>
    simp only [← hn]
    rw [readCr_pacr (hn ▸ hlt)]
    exact toNat_image_pacr _
  case ccrOff =>
    rw [readCr_ccr, toNat_ccrImage, if_pos hr, Nat.add_zero]

/-! What a write leaves to be read -/

/-- A field that the mask clears is zero. -/
theorem isField_and_zero {n k l : Nat} {mask : BitVec n} (hm : mask.extractLsb' k l = 0) (v : BitVec n) :
    IsField (v &&& mask) k 0#l := by
  rw [IsField, BitVec.extractLsb'_and, hm]
  exact BitVec.and_zero

/-- A field that the mask keeps is that of the value. -/
theorem isField_and_ones {n k l : Nat} {mask : BitVec n} (hm : mask.extractLsb' k l = BitVec.allOnes l) (v : BitVec n) :
    IsField (v &&& mask) k (v.extractLsb' k l) := by
  rw [IsField, BitVec.extractLsb'_and, hm, BitVec.and_allOnes]

theorem ofBool_getLsbD {n : Nat} (v : BitVec n) (k : Nat) : BitVec.ofBool (v.getLsbD k) = v.extractLsb' k 1 := by
  apply BitVec.eq_of_getLsbD_eq
  intro j hj
  obtain rfl : j = 0 := by omega
  simp

theorem image_ofImage_psr (v : Word) : (Psr.ofImage v).image = v &&& 0x80FF03C1 := by
  refine eq_of_isField ?_
  simp only [Psr.image, Psr.ofImage, ofBool_getLsbD]
  simp (disch := decide) only [isField_append, isField_and_zero, isField_and_ones, and_self]

theorem image_ofImage_pacr (v : Word) : (Pacr.ofImage v).image = v &&& 0xFFFFFC3F := by
  refine eq_of_isField ?_
  simp only [Pacr.image, Pacr.ofImage, ofBool_getLsbD]
  simp (disch := decide) only [isField_append, isField_and_zero, isField_and_ones, and_self]

/-- The low bits of a value, zero-extended, are the value under the mask of these bits. -/
theorem setWidth_low {n : Nat} (hn : n ≤ 32) (v : Word) :
    (v.extractLsb' 0 n).setWidth 32 = v &&& BitVec.ofNat 32 (2 ^ n - 1) := by
  have hmask : 2 ^ n - 1 < 2 ^ 32 :=
    (Nat.sub_lt (Nat.two_pow_pos n) Nat.one_pos).trans_le (Nat.pow_le_pow_right (by decide) hn)
  apply BitVec.eq_of_toNat_eq
  rw [BitVec.toNat_setWidth_of_le hn, BitVec.extractLsb'_toNat, BitVec.toNat_and, BitVec.toNat_ofNat,
    Nat.mod_eq_of_lt hmask, Nat.and_two_pow_sub_one_eq_mod]
  rfl

/-- Writing MP replaces the low two bits of CCR (10_state.md R63). -/
theorem ccrImage_setMp {s : State} (hr : s.cfg.mpuRegions ≠ 0) (x : BitVec 2) :
    ({ s with mp := x } : State).ccrImage = (s.ccrImage &&& 0xFFFFFFFC) ||| x.setWidth 32 := by
  simp only [State.ccrImage, if_neg hr]
  have hmask : (0xFFFFFFFC : Word) = BitVec.allOnes 30 ++ 0#2 := by decide
  have hlow : (x.setWidth 32 : Word) = 0#30 ++ x := by
    revert x
    decide
  generalize 0#18 ++ BitVec.ofBool s.cfg.beV2 ++ 0#2 ++ s.cfg.sck ++ BitVec.ofBool (s.cfg.endian == .big) ++ 0#5 = high
  rw [hmask, hlow]
  have hkeep : (high ++ s.mp) &&& (BitVec.allOnes 30 ++ 0#2) = high ++ 0#2 := by
    rw [BitVec.and_append, BitVec.and_allOnes, BitVec.and_zero]
  have hput : (high ++ 0#2) ||| (0#30 ++ x) = high ++ x := by
    rw [BitVec.or_append, BitVec.or_zero, BitVec.zero_or]
  exact hput.symm.trans (congrArg (· ||| (0#30 ++ x)) hkeep.symm)

/-- The implemented bits of CAPR are those of the regions that exist (10_state.md R64). -/
theorem getLsbD_caprMask : ∀ (regions : Fin 9) (n : Nat), n < 8 →
    ((caprMask regions).getLsbD n = true ↔ n < regions.val) ∧
    ((caprMask regions).getLsbD (8 + 2 * n) = true ↔ n < regions.val) ∧
    ((caprMask regions).getLsbD (9 + 2 * n) = true ↔ n < regions.val) ∧
    ((caprMask regions).getLsbD (24 + n) = true ↔ n < regions.val) := by
  decide

theorem chrImage_setIae (s : State) (v : Word) : ({ s with iae := v.getLsbD 4 } : State).chrImage = v &&& 0x10 := by
  refine eq_of_isField ?_
  simp only [State.chrImage, ofBool_getLsbD]
  simp (disch := decide) only [isField_append, isField_and_zero, isField_and_ones, and_self]

theorem readCr_of_writeCr_capr {s t : State} {v : Word} (h : writeCr 19 0 v s = .ok t) :
    readCr t 19 0 = v &&& caprMask s.cfg.mpuRegions := by
  by_cases hr : s.cfg.mpuRegions = 0
  · cases (writeCr_mpu_absent hr (by decide) v).symm.trans h
    rw [readCr_capr, if_pos hr, hr]
    exact BitVec.and_zero.symm
  · cases (writeCr_capr hr v).symm.trans h
    rw [readCr_capr, if_neg hr]

/-- Settles O55, register by register. -/
theorem controlRegisterWriteReadsBack : Obligations.ControlRegisterWriteReadsBack := by
  intro s v
  refine ⟨fun t h => ?psr, fun t h => ?epsr, fun t h => ?epc, fun t h => readCr_of_writeCr_capr h,
    getLsbD_caprMask s.cfg.mpuRegions, fun t hr h => ?caprAll, fun t hr h => ?caprFour, fun t hr h => ?pacr,
    fun t hr h => ?prsr, fun t hr h => ?ccr, fun t hn h => ?chr, fun t hg h => ?gcr⟩
  case psr => cases h; exact image_ofImage_psr v
  case epsr => cases h; exact image_ofImage_psr v
  case epc => cases h; rfl
  case caprAll =>
    rw [readCr_of_writeCr_capr h, hr]
    exact BitVec.and_allOnes
  case caprFour =>
    rw [readCr_of_writeCr_capr h, hr]
    rfl
  case pacr =>
    cases (writeCr_pacr hr v).symm.trans h
    have hself := Vector.getElem_set_self (xs := s.pacr) (x := Pacr.ofImage v) s.rid.isLt
    exact (if_pos hr).trans ((congrArg Pacr.image hself).trans (image_ofImage_pacr v))
  case prsr =>
    cases (writeCr_prsr hr v).symm.trans h
    rw [readCr_prsr, if_neg hr]
    exact setWidth_low (by decide) v
  case ccr =>
    cases hv : v.getLsbD 1 with
    | true => cases (writeCr_ccr_reserved hr hv).symm.trans h
    | false =>
      cases (writeCr_ccr hr hv).symm.trans h
      rw [readCr_ccr, ccrImage_setMp hr, setWidth_low (by decide)]
      rfl
  case chr =>
    cases (writeCr_chr hn v).symm.trans h
    exact chrImage_setIae s v
  case gcr =>
    cases (writeCr_gcr v s).symm.trans h
    rw [readCr_gcr, if_pos hg, if_pos hg]

end Sys2Proof.Machine

/-! PROOFS. Alignment by arithmetic, what one store leaves to be read, and the loads and stores that complete (20_memory.md R100
to R111, 41_compare_move_bit_ext_mult.md R262, R263, 43_load_store.md sections 2 and 3). -/

namespace Sys2Proof.Machine

/-! Alignment -/

/-- The address bits below the size are the remainder by it. -/
theorem toNat_and_lowBits (sz : Size) (a : Word) : (a &&& sz.lowBits).toNat = a.toNat % sz.bytes := by
  rw [BitVec.toNat_and]
  cases sz with
  | byte => exact Nat.and_two_pow_sub_one_eq_mod a.toNat 0
  | half => exact Nat.and_two_pow_sub_one_eq_mod a.toNat 1
  | word => exact Nat.and_two_pow_sub_one_eq_mod a.toNat 2

theorem misaligned_eq_true_iff (sz : Size) (a : Word) : misaligned sz a = true ↔ a.toNat % sz.bytes ≠ 0 := by
  rw [misaligned, bne_iff_ne, BitVec.toNat_ne, toNat_and_lowBits]
  rfl

theorem toNat_alignDown (sz : Size) (a : Word) : (alignDown sz a).toNat = a.toNat - a.toNat % sz.bytes := by
  have hsub : alignDown sz a = a - (a &&& sz.lowBits) := BitVec.eq_sub_iff_add_eq.mpr (and_not_add_and a sz.lowBits)
  have hle : a &&& sz.lowBits ≤ a := by
    rw [BitVec.le_def, toNat_and_lowBits]
    exact Nat.mod_le _ _
  rw [hsub, BitVec.toNat_sub_of_le hle, toNat_and_lowBits]

/-- Settles O27. -/
theorem alignmentIsByMultiplesOfTheSize : Obligations.AlignmentIsByMultiplesOfTheSize := fun sz a =>
  ⟨misaligned_eq_true_iff sz a, toNat_alignDown sz a⟩

/-- An address aligned down is aligned. -/
theorem misaligned_alignDown (sz : Size) (a : Word) : misaligned sz (alignDown sz a) = false := by
  rw [misaligned, alignDown, and_not_and_self]
  rfl

/-- Settles O25. -/
theorem memoryByteReadsBack : Obligations.MemoryByteReadsBack := fun m a b h =>
  ⟨Memory.wf_write h a b, Memory.read_write_same h a b, fun _ hx => Memory.read_write_ne m hx b⟩

/-! The bytes of a datum -/

theorem extractLsb'_low_extractLsb' (v : Word) {n k : Nat} (h : k + 8 ≤ n) :
    (v.extractLsb' 0 n).extractLsb' k 8 = v.extractLsb' k 8 := by
  apply BitVec.eq_of_getLsbD_eq
  intro j hj
  simp only [BitVec.getLsbD_extractLsb', Nat.zero_add]
  rw [decide_eq_true (show k + j < n by omega), Bool.true_and]

theorem extractLsb'_setWidth_byte {n k : Nat} (x : BitVec n) (hk : k + 8 ≤ 32) :
    (x.setWidth 32 : Word).extractLsb' k 8 = x.extractLsb' k 8 := by
  apply BitVec.eq_of_getLsbD_eq
  intro j hj
  simp only [BitVec.getLsbD_extractLsb', BitVec.getLsbD_setWidth]
  rw [decide_eq_true (show k + j < 32 by omega), Bool.true_and]

theorem length_dataBytes (e : Endian) (sz : Size) (v : Word) : (dataBytes e sz v).length = sz.bytes := by
  cases sz <;> cases e <;> rfl

/-- Byte `k` of a datum taken apart, in either byte order. -/
theorem getElem?_dataBytes (e : Endian) (sz : Size) (v : Word) {k : Nat} (hk : k < sz.bytes) :
    (dataBytes e sz v)[k]? = some (datumByte e sz.bytes v k) := by
  cases sz with
  | byte =>
    obtain rfl : k = 0 := Nat.lt_one_iff.mp hk
    cases e <;> rfl
  | half =>
    have hlow := extractLsb'_low_extractLsb' v (n := 16) (k := 0) (by decide)
    have hhigh := extractLsb'_low_extractLsb' v (n := 16) (k := 8) (by decide)
    change k < 2 at hk
    cases e <;> interval_cases k
    · exact congrArg some hlow
    · exact congrArg some hhigh
    · exact congrArg some hhigh
    · exact congrArg some hlow
  | word => exact getElem?_wordBytes e v hk

theorem bytes_le_four (sz : Size) : sz.bytes ≤ 4 := by
  cases sz <;> decide

/-- What a store leaves at each of its bytes. -/
theorem read_writeData {s : State} (hm : s.mem.wf = true) (sz : Size) (a v : Word) {k : Nat} (hk : k < sz.bytes) :
    (writeData s sz a v).mem.read (a + BitVec.ofNat 32 k) = datumByte s.cfg.endian sz.bytes v k := by
  have hlen := length_dataBytes s.cfg.endian sz v
  have hle := bytes_le_four sz
  rw [State.mem_writeData, Memory.read_writeBytes hm _ _ _ (by omega), offset_in_word (by omega),
    dif_pos (by rwa [hlen])]
  exact List.getElem_eq_iff _ |>.mpr (getElem?_dataBytes _ sz v hk)

theorem storesAt_writeData {s : State} (hm : s.mem.wf = true) (sz : Size) (a v : Word) :
    StoresAt a sz.bytes v s (writeData s sz a v) where
  stored _ hk := read_writeData hm sz a v hk
  outside x hx := by
    have hlen := length_dataBytes s.cfg.endian sz v
    have hle := bytes_le_four sz
    exact Memory.read_writeBytes_outside _ _ _ _ (by omega) (by rwa [hlen])

/-! A word read at every width -/

theorem joinWord_datumBytes (e : Endian) (v : Word) :
    joinWord e (datumByte e 4 v 0) (datumByte e 4 v 1) (datumByte e 4 v 2) (datumByte e 4 v 3) = v := by
  have hjoin : v.extractLsb' 24 8 ++ v.extractLsb' 16 8 ++ v.extractLsb' 8 8 ++ v.extractLsb' 0 8 = v :=
    eq_of_isField (by simp only [isField_append, isField_extractLsb', and_self])
  cases e <;> exact hjoin

theorem zeroExtend_high_eq_ofNat (v : Word) : (v.extractLsb' 16 16).setWidth 32 = BitVec.ofNat 32 (v.toNat / 2 ^ 16) := by
  apply BitVec.eq_of_toNat_eq
  have := v.isLt
  rw [BitVec.toNat_setWidth_of_le (by decide), BitVec.extractLsb'_toNat, Nat.shiftRight_eq_div_pow, BitVec.toNat_ofNat]
  omega

/-- Two neighbouring bytes make the halfword of both. -/
theorem append_bytes (v : Word) (k : Nat) : v.extractLsb' (k + 8) 8 ++ v.extractLsb' k 8 = v.extractLsb' k 16 :=
  BitVec.extractLsb'_append_extractLsb'_eq_extractLsb' rfl

theorem readWord_writeData {s : State} (hm : s.mem.wf = true) (a v : Word) :
    readData (writeData s .word a v) .word a = v := by
  have hread := fun k (hk : k < 4) => read_writeData hm .word a v hk
  have h0 := hread 0 (by decide)
  have h1 : (writeData s .word a v).mem.read (a + 1) = _ := hread 1 (by decide)
  have h2 : (writeData s .word a v).mem.read (a + 2) = _ := hread 2 (by decide)
  have h3 : (writeData s .word a v).mem.read (a + 3) = _ := hread 3 (by decide)
  rw [BitVec.add_zero] at h0
  change joinWord s.cfg.endian _ _ _ _ = v
  rw [h0, h1, h2, h3]
  exact joinWord_datumBytes _ v

/-- The halfword `j` bytes into a stored word. -/
theorem readHalf_writeData {s : State} (hm : s.mem.wf = true) (a v : Word) {j : Nat} (hj : j < 3) :
    readData (writeData s .word a v) .half (a + BitVec.ofNat 32 j) =
      (joinHalf s.cfg.endian (datumByte s.cfg.endian 4 v j) (datumByte s.cfg.endian 4 v (j + 1))).setWidth 32 := by
  have hread := fun k (hk : k < 4) => read_writeData hm .word a v hk
  have hnext : a + BitVec.ofNat 32 j + 1 = a + BitVec.ofNat 32 (j + 1) := by
    rw [BitVec.ofNat_add, BitVec.add_assoc]
    rfl
  change (joinHalf s.cfg.endian ((writeData s .word a v).mem.read _) ((writeData s .word a v).mem.read _)).setWidth 32 = _
  rw [hnext, hread j (by omega), hread (j + 1) (by omega)]
  rfl

/-- Settles O26. -/
theorem wordStoreReadsBackAtEveryWidth : Obligations.WordStoreReadsBackAtEveryWidth := by
  intro s a v hm
  have hhalf0 := readHalf_writeData hm a v (j := 0) (by decide)
  have hhalf2 := readHalf_writeData hm a v (j := 2) (by decide)
  rw [BitVec.add_zero] at hhalf0
  refine ⟨readWord_writeData hm a v, fun k hk => congrArg (BitVec.setWidth 32) (read_writeData hm .word a v hk),
    fun he => ⟨hhalf0.trans ?_, hhalf2.trans ?_⟩, fun he => ⟨hhalf0.trans ?_, hhalf2.trans ?_⟩⟩
  all_goals rw [he]
  · exact (congrArg _ (append_bytes v 0)).trans (zeroExtend_low_eq_ofNat v 16)
  · exact (congrArg _ (append_bytes v 16)).trans (zeroExtend_high_eq_ofNat v)
  · exact (congrArg _ (append_bytes v 16)).trans (zeroExtend_high_eq_ofNat v)
  · exact (congrArg _ (append_bytes v 0)).trans (zeroExtend_low_eq_ofNat v 16)

/-! Loads -/

/-- The bytes of a halfword put together, in either byte order (20_memory.md R101). -/
theorem datumByte_joinHalf (e : Endian) (b0 b1 : Byte) :
    datumByte e 2 ((joinHalf e b0 b1).setWidth 32) 0 = b0 ∧ datumByte e 2 ((joinHalf e b0 b1).setWidth 32) 1 = b1 := by
  have low := fun x y : Byte => (extractLsb'_setWidth_byte (k := 0) (x ++ y) (by decide)).trans
    BitVec.extractLsb'_append_eq_right
  have high := fun x y : Byte => (extractLsb'_setWidth_byte (k := 8) (x ++ y) (by decide)).trans
    BitVec.extractLsb'_append_eq_left
  cases e with
  | little => exact ⟨low b1 b0, high b1 b0⟩
  | big => exact ⟨high b0 b1, low b0 b1⟩

theorem datumByte_setWidth (e : Endian) (b : Byte) : datumByte e 1 (b.setWidth 32) 0 = b := by
  have h := (extractLsb'_setWidth_byte (k := 0) b (by decide)).trans BitVec.extractLsb'_eq_self
  cases e <;> exact h

/-- The datum read is that of its bytes, zero-extended (20_memory.md R101, R111). -/
theorem holdsDatum_readData (s : State) (sz : Size) (a : Word) : HoldsDatum s a sz.bytes (readData s sz a) := by
  cases sz with
  | byte =>
    refine ⟨(BitVec.toNat_setWidth_of_le (by decide)).trans_lt (s.mem.read a).isLt, fun k hk => ?_⟩
    obtain rfl : k = 0 := Nat.lt_one_iff.mp hk
    rw [BitVec.add_zero]
    exact (datumByte_setWidth s.cfg.endian (s.mem.read a)).symm
  | half =>
    obtain ⟨h0, h1⟩ := datumByte_joinHalf s.cfg.endian (s.mem.read a) (s.mem.read (a + 1))
    refine ⟨(BitVec.toNat_setWidth_of_le (by decide)).trans_lt (s.mem.readHalf s.cfg.endian a).isLt, fun k hk => ?_⟩
    change k < 2 at hk
    interval_cases k
    · rw [BitVec.add_zero]
      exact h0.symm
    · exact h1.symm
  | word =>
    have h := wordStored_readWord s a 0
    rwa [Nat.mul_zero, WordStored, BitVec.add_zero] at h

/-- A load to a register completes where it is aligned or masked, and permitted. -/
theorem completes_loadTo {i : Instr} {s : State} {n : Reg} {sz : Size} {a ilen : Word}
    (hexec : exec i s = loadTo n sz a ilen s) (ha : alignedOrMasked s sz a)
    (hp : accessVerdict s .read s.psr.s (alignDown sz a) sz.bytes = .permit) :
    ∃ v, HoldsDatum s (alignDown sz a) sz.bytes v ∧ Completes i s (WritesReg n v s.psr.c ilen s) :=
  ⟨_, holdsDatum_readData s sz _, completes_writeBack (hexec.trans (loadTo_of_permit ha hp)) rfl⟩

theorem loadsFrom_of_exec {i : Instr} {s : State} {n : Reg} {sz : Size} {a b ilen : Word}
    (hexec : exec i s = loadTo n sz a ilen s) (hab : a = b) : LoadsFrom i n sz b ilen s := by
  subst hab
  exact completes_loadTo hexec

theorem scaled2_eq_ofNat {n : Nat} (imm : BitVec n) : scaled2 imm = BitVec.ofNat 32 (2 * imm.toNat) := by
  rw [scaled2, BitVec.shiftLeft_eq_mul_twoPow, BitVec.ofNat_mul, BitVec.ofNat_toNat, BitVec.mul_comm]
  rfl

/-- The offset of the SP forms is IMM3 and IMM5 side by side (43_load_store.md R305, R315). -/
theorem scaled4_append_eq_ofNat (d3 : BitVec 3) (d5 : BitVec 5) :
    scaled4 (d3 ++ d5) = BitVec.ofNat 32 (4 * (32 * d3.toNat + d5.toNat)) := by
  rw [scaled4_eq_ofNat, toNat_append_eq, Nat.mul_comm d3.toNat]
  rfl

/-- A literal's address is a multiple of 4, so that LRW16 and LRW32 never misalign (20_memory.md R109). -/
theorem literalAddr_eq_alignDown {n : Nat} (pc : Word) (offset : BitVec n) :
    literalAddr pc offset = alignDown .word (pc + BitVec.ofNat 32 (4 * offset.toNat)) := by
  rw [literalAddr, scaled4_eq_ofNat]
  rfl

theorem completes_loadLiteral {i : Instr} {s : State} {n : Reg} {k : Nat} {offset : BitVec k} {ilen : Word}
    (hexec : exec i s = loadTo n .word (literalAddr s.pc offset) ilen s)
    (hp : accessVerdict s .read s.psr.s (literalAddr s.pc offset) 4 = .permit) :
    ∃ v, HoldsDatum s ((s.pc + BitVec.ofNat 32 (4 * offset.toNat)) &&& 0xFFFFFFFC) 4 v ∧
      Completes i s (WritesReg n v s.psr.c ilen s) := by
  rw [literalAddr_eq_alignDown] at hexec hp
  have h := completes_loadTo hexec (.inl (misaligned_alignDown .word _)) (by rw [alignDown_alignDown]; exact hp)
  rw [alignDown_alignDown] at h
  exact h

/-- Offset8 of LRW16 as a number (41_compare_move_bit_ext_mult.md R262). -/
theorem toNat_lrwOffset (imm1 : BitVec 1) (imm2 : BitVec 2) (imm5 : BitVec 5) : (lrwOffset imm1 imm2 imm5).toNat =
    if imm1 = 1 then 32 * imm2.toNat + imm5.toNat else 255 - (32 * imm2.toNat + imm5.toNat) := by
  have h2 := imm2.isLt
  have h5 := imm5.isLt
  rw [lrwOffset]
  split
  · rw [toNat_append_eq, toNat_imm2_append_imm5]
    exact Nat.zero_add _
  · rw [toNat_append_eq, BitVec.toNat_not, toNat_imm2_append_imm5]
    change 1 * 128 + _ = _
    omega

/-- Settles O40: each form loads from the address it computes. -/
theorem loadResults : Obligations.LoadResults := by
  intro s
  refine ⟨fun rz rx d => ⟨loadsFrom_of_exec rfl ?byte, loadsFrom_of_exec rfl ?half, loadsFrom_of_exec rfl ?word⟩,
    fun rz d3 d5 => loadsFrom_of_exec rfl ?fromSp,
    fun rz rx d => ⟨loadsFrom_of_exec rfl ?byte32, loadsFrom_of_exec rfl ?half32, loadsFrom_of_exec rfl ?word32⟩,
    fun rz imm1 imm2 imm5 hp => ?lrw16, fun rz imm16 hp => completes_loadLiteral rfl hp⟩
  case byte | byte32 => exact congrArg _ (plainImm_eq_ofNat d)
  case half | half32 => exact congrArg _ (scaled2_eq_ofNat d)
  case word | word32 => exact congrArg _ (scaled4_eq_ofNat d)
  case fromSp => exact congrArg _ (scaled4_append_eq_ofNat d3 d5)
  case lrw16 =>
    rw [← toNat_lrwOffset]
    exact completes_loadLiteral rfl hp

/-! Stores -/

theorem storesTo_of_exec {i : Instr} {s : State} {v : Word} {sz : Size} {a b ilen : Word}
    (hexec : exec i s = storeFrom v sz a ilen s) (hab : a = b) : StoresTo i v sz b ilen s := by
  subst hab
  intro hm ha hp
  have hstores := storesAt_writeData hm sz (alignDown sz a) v
  exact ⟨_, hexec.trans (storeFrom_of_permit ha hp), { hstores with }, rfl, rfl, fun _ => rfl, by constructor <;> rfl⟩

/-- Settles O41: each form stores at the address it computes. -/
theorem storeResults : Obligations.StoreResults := by
  intro s
  refine ⟨fun rz rx d => ⟨storesTo_of_exec rfl ?byte, storesTo_of_exec rfl ?half, storesTo_of_exec rfl ?word⟩,
    fun rz d3 d5 => storesTo_of_exec rfl ?fromSp,
    fun rz rx d => ⟨storesTo_of_exec rfl ?byte32, storesTo_of_exec rfl ?half32, storesTo_of_exec rfl ?word32⟩⟩
  case byte | byte32 => exact congrArg _ (plainImm_eq_ofNat d)
  case half | half32 => exact congrArg _ (scaled2_eq_ofNat d)
  case word | word32 => exact congrArg _ (scaled4_eq_ofNat d)
  case fromSp => exact congrArg _ (scaled4_append_eq_ofNat d3 d5)

end Sys2Proof.Machine

/-! PROOFS. PUSH16, IPUSH16, IPOP16 and NIE16 where every word may be accessed (43_load_store.md R321, R324, R325,
44_privileged_special.md R348). -/

namespace Sys2Proof.Machine

/-! Registers stored below SP -/

/-- SP after a push of the registers, the address of the first of them (43_load_store.md R321). -/
def pushBase (s : State) (rs : List Reg) : Word := s.reg sp - BitVec.ofNat 32 (4 * rs.length)

/-- The state after the stores of a push and the fall of SP. -/
def pushed (s : State) (rs : List Reg) : State :=
  (s.setMem (storeSlots s.cfg.endian s.mem (wordSlots (pushBase s rs) (rs.map s.reg)))).setReg sp (pushBase s rs)

/-- The slots of consecutive words may be written when the words may. -/
theorem forall_mem_wordSlots_of_permitted {s : State} {a : Word} {vs : List Word}
    (hp : WordsPermitted s .write a vs.length) :
    ∀ p ∈ wordSlots a vs, accessVerdict s .write s.psr.s p.1 4 = .permit := by
  intro p hmem
  obtain ⟨k, hk, he⟩ := exists_index_of_mem_wordSlots hmem
  rw [he]
  exact hp k hk

theorem pushRegs_of_permit {s : State} {rs : List Reg} (ha : (s.reg sp).toNat % 4 = 0)
    (hp : WordsPermitted s .write (pushBase s rs) rs.length) : pushRegs rs s = .ok (pushed s rs) := by
  rw [← List.length_map (f := s.reg) (as := rs)] at hp
  exact pushRegs_eq_ok.mpr ⟨(misaligned_word_eq_false_iff _).mpr ha, forall_mem_wordSlots_of_permitted hp, rfl⟩

theorem reg_pushed_sp (s : State) (rs : List Reg) : (pushed s rs).reg sp = pushBase s rs :=
  State.reg_setReg_same _ _ _

theorem reg_pushed_ne (s : State) (rs : List Reg) {k : Reg} (hk : k ≠ sp) : (pushed s rs).reg k = s.reg k :=
  State.reg_setReg_ne _ _ _ _ hk

/-- Register number `k` of the list is stored at word number `k`. -/
theorem wordStored_pushed {s : State} {rs : List Reg} (hm : s.mem.wf = true) (hl : 4 * rs.length ≤ 2 ^ 32) {k : Nat}
    (hk : k < rs.length) : WordStored (pushBase s rs) k (s.reg rs[k]) (pushed s rs) := by
  have h := wordStored_storeSlots hm (a := pushBase s rs) (vs := rs.map s.reg) (k := k)
    (by rwa [List.length_map]) (by rwa [List.length_map])
  rw [List.getElem_map] at h
  exact h

theorem memOnlyWords_pushed (s : State) (rs : List Reg) : MemOnlyWords (pushBase s rs) rs.length s (pushed s rs) := by
  have h := memOnlyWords_storeSlots s (pushBase s rs) (rs.map s.reg)
  rw [List.length_map] at h
  exact h

theorem sameSystem_pushed_advance (s : State) (rs : List Reg) (n : Word) : SameSystem s ((pushed s rs).advance n) := by
  constructor <;> rfl

/-- Settles O43: the registers of the list stand below SP in its order. -/
theorem pushResults : Obligations.PushResults := by
  intro s r15 n i hform hm ha hp
  obtain ⟨hn, hexec⟩ := exec_push16_of_form hform s
  have hr15 := r15.isLt
  have hlen := length_regList r15 n
  rw [← hlen] at hp ⊢
  rw [pushRegs_of_permit ha hp] at hexec
  have hstored := fun k (hk : k < (regList r15 n).length) => wordStored_pushed hm (by omega) hk
  refine ⟨_, hexec, fun k hk => ?saved, fun h1 => ?link, memOnlyWords_pushed s _, reg_pushed_sp s _,
    fun k hk => reg_pushed_ne s _ hk, rfl, rfl, sameSystem_pushed_advance s _ 2⟩
  case saved =>
    have h := hstored k (by omega)
    rw [getElem_regList hk] at h
    exact h
  case link =>
    subst h1
    have hlast : n < (regList 1 n).length := by rw [hlen]; exact Nat.lt_succ_self n
    have h := hstored n hlast
    rw [getElem_regList_last hlast] at h
    exact h

/-! IPUSH16 and IPOP16 -/

/-- A pop changes general registers alone. -/
theorem popped_eq (s : State) (rs : List Reg) : ∃ r, popped s rs = { s with regs := r } := by
  obtain ⟨r, hr⟩ := setRegs_eq s rs (wordsAt s (s.reg sp) rs.length)
  rw [popped, hr]
  exact setRegs_eq { s with regs := r } [sp] [_]

theorem frame_popped_advance (s : State) (rs : List Reg) (n : Word) :
    ((popped s rs).advance n).pc = s.pc + n ∧ ((popped s rs).advance n).psr.c = s.psr.c ∧
      (∀ a, ((popped s rs).advance n).mem.read a = s.mem.read a) ∧ SameSystem s ((popped s rs).advance n) := by
  obtain ⟨r, hr⟩ := popped_eq s rs
  rw [hr]
  exact ⟨rfl, rfl, fun _ => rfl, by constructor <;> rfl⟩

/-- The registers that IPOP16 loads are r0 to r3, r12 and r13 (43_load_store.md R325). -/
theorem not_mem_interruptRegs {k : Reg} (h4 : 4 ≤ k.toNat) (h12 : k ≠ 12) (h13 : k ≠ 13) : k ∉ interruptRegs := by
  revert k
  decide

theorem pushBase_interruptRegs (s : State) : pushBase s interruptRegs = s.reg sp - 24 := rfl

theorem exec_ipush16_of_ok {s t : State} (h : pushRegs interruptRegs s = .ok t) :
    exec .ipush16 s = .next (t.advance 2) := by
  change finish ((pushRegs interruptRegs s).map fun u => u.advance 2) = _
  rw [h]
  rfl

theorem exec_ipop16_of_ok {s t : State} (h : popRegs interruptRegs s = .ok t) :
    exec .ipop16 s = .next (t.advance 2) := by
  change finish ((popRegs interruptRegs s).map fun u => u.advance 2) = _
  rw [h]
  rfl

theorem wordStored_advance {a v n : Word} {k : Nat} {t : State} (h : WordStored a k v t) :
    WordStored a k v (t.advance n) := h

/-- Settles O45. -/
theorem interruptPushAndPopResults : Obligations.InterruptPushAndPopResults := by
  refine ⟨fun s hm ha hp => ?push, fun s ha hp => ?pop⟩
  case push =>
    have hexec := exec_ipush16_of_ok
      (pushRegs_of_permit (rs := interruptRegs) ha (by rw [pushBase_interruptRegs]; exact hp))
    have hstored := fun k (hk : k < interruptRegs.length) =>
      wordStored_advance (n := 2) (wordStored_pushed (rs := interruptRegs) hm (by decide) hk)
    have hout := memOnlyWords_pushed s interruptRegs
    have hsp := reg_pushed_sp s interruptRegs
    rw [pushBase_interruptRegs] at hout hsp
    simp only [pushBase_interruptRegs] at hstored
    refine ⟨_, hexec, fun k hk => ?saved, ?zero, hstored 5 (by decide), hout, hsp,
      fun k hk => reg_pushed_ne s _ hk, rfl, rfl, sameSystem_pushed_advance s _ 2⟩
    case saved =>
      have h := hstored k (hk.trans (by decide))
      rw [reg_interruptRegs s (by omega), if_pos hk] at h
      exact h
    case zero =>
      have h := hstored 4 (by decide)
      rw [reg_interruptRegs s (by decide), if_neg (by decide)] at h
      exact h
  case pop =>
    have hexec := exec_ipop16_of_ok (popRegs_of_permit (rs := interruptRegs) ha hp)
    have hreg := fun k (hk : k < 6) =>
      reg_popped_getElem (s := s) (rs := interruptRegs) (by decide) (by decide) hk
    refine ⟨_, hexec, fun k hk => ?loaded, ?loadedLast, fun k h4 h13 hsp => ?others, reg_popped_sp s _,
      frame_popped_advance s _ 2⟩
    case loaded =>
      have h : (popped s interruptRegs).reg (BitVec.ofNat 4 k) =
          s.mem.readWord s.cfg.endian (s.reg sp + BitVec.ofNat 32 (4 * k)) := by
        interval_cases k
        · exact hreg 0 (by decide)
        · exact hreg 1 (by decide)
        · exact hreg 2 (by decide)
        · exact hreg 3 (by decide)
      rw [State.reg_advance, h]
      exact wordStored_readWord s _ k
    case loadedLast =>
      have h : (popped s interruptRegs).reg 13 = _ := hreg 5 (by decide)
      rw [State.reg_advance, h]
      exact wordStored_readWord s _ 5
    case others =>
      by_cases h12 : k = 12
      · subst h12
        rw [State.reg_unimplemented s 12 rfl]
        exact State.reg_unimplemented _ 12 rfl
      · exact reg_popped_of_not_mem (not_mem_interruptRegs h4 h12 h13) hsp

/-! NIE16 -/

/-- The memory after the stores of NIE16: EPC at SP-4, then EPSR at SP-8 (44_privileged_special.md R348). -/
def nestStored (s : State) : State := s.setMem (storeSlots s.cfg.endian s.mem (nieSlots s))

/-- The state after NIE16. -/
def nestEntered (s : State) : State :=
  State.advance { (nestStored s).setReg sp (s.reg sp - 8) with psr := { s.psr with ee := true, ie := true } } 2

theorem sub_eight_add_four (a : Word) : a - 8 + BitVec.ofNat 32 (4 * 1) = a - 4 := by
  bv_omega

theorem exec_nie16_of_permit {s : State} (hs : s.psr.s = true) (ha : (s.reg sp).toNat % 4 = 0)
    (hp : WordsPermitted s .write (s.reg sp - 8) 2) : exec .nie16 s = .next (nestEntered s) := by
  have hfirst := hp 1 (by decide)
  have hsecond := hp 0 (by decide)
  rw [sub_eight_add_four] at hfirst
  rw [Nat.mul_zero, BitVec.add_zero] at hsecond
  have hslots : ∀ p ∈ nieSlots s, accessVerdict s .write s.psr.s p.1 4 = .permit :=
    List.forall_mem_cons.mpr ⟨hfirst, List.forall_mem_singleton.mpr hsecond⟩
  refine (privileged_super hs).trans ?_
  rw [alignedSp_of_aligned ha, Res.andThen_ok, storeWords_eq_ok.mpr ⟨hslots, rfl⟩]
  rfl

/-- The state after the first store of NIE16, of EPC at SP-4. -/
def epcStored (s : State) : State := s.setMem (storeSlots s.cfg.endian s.mem (wordSlots (s.reg sp - 4) [s.epc]))

theorem wf_epcStored {s : State} (hm : s.mem.wf = true) : (epcStored s).mem.wf = true :=
  storeSlots_wf hm _

/-- The second store writes EPSR at SP-8. -/
theorem nestStored_eq (s : State) : nestStored s = (epcStored s).setMem
    (storeSlots s.cfg.endian (epcStored s).mem (wordSlots (s.reg sp - 8) [s.epsr.image])) := rfl

theorem wordStored_nestStored_epsr {s : State} (hm : s.mem.wf = true) :
    WordStored (s.reg sp - 8) 0 s.epsr.image (nestStored s) := by
  rw [nestStored_eq]
  exact wordStored_storeSlots (wf_epcStored hm) (vs := [s.epsr.image]) (show 4 * 1 ≤ 2 ^ 32 by decide) Nat.zero_lt_one

/-- The bytes at SP-4 are no bytes of the word at SP-8. -/
theorem four_le_offset_of_next_word (a : Word) {j : Nat} (hj : j < 4) :
    4 * 1 ≤ (a - 4 + BitVec.ofNat 32 j - (a - 8)).toNat := by
  bv_omega

/-- EPC stands at SP-4, which the second store leaves. -/
theorem wordStored_nestStored_epc {s : State} (hm : s.mem.wf = true) :
    WordStored (s.reg sp - 8) 1 s.epc (nestStored s) := by
  obtain ⟨hlt, hbytes⟩ : WordStored (s.reg sp - 4) 0 s.epc (epcStored s) :=
    wordStored_storeSlots hm (vs := [s.epc]) (show 4 * 1 ≤ 2 ^ 32 by decide) Nat.zero_lt_one
  refine ⟨hlt, fun j hj => ?_⟩
  have hj' := hbytes j hj
  rw [Nat.mul_zero, BitVec.add_zero] at hj'
  have hkept : MemOnlyWords (s.reg sp - 8) 1 (epcStored s) (nestStored s) := by
    rw [nestStored_eq]
    exact memOnlyWords_storeSlots (epcStored s) (s.reg sp - 8) [s.epsr.image]
  rw [sub_eight_add_four, hkept _ (four_le_offset_of_next_word _ hj)]
  exact hj'

theorem memOnlyWords_nestStored (s : State) : MemOnlyWords (s.reg sp - 8) 2 s (nestStored s) := by
  intro x hx
  have hfirst : 4 ≤ (x - (s.reg sp - 4)).toNat := by bv_omega
  have hsecond : 4 ≤ (x - (s.reg sp - 8)).toNat := by omega
  exact storeSlots_read_outside _ _ _ _ (List.forall_mem_cons.mpr ⟨hfirst, List.forall_mem_singleton.mpr hsecond⟩)

/-- Settles O48. -/
theorem nestEnterResults : Obligations.NestEnterResults := by
  intro s hs hm ha hp
  exact ⟨_, exec_nie16_of_permit hs ha hp, wordStored_nestStored_epsr hm, wordStored_nestStored_epc hm,
    memOnlyWords_nestStored s, State.reg_setReg_same (nestStored s) sp _,
    fun k hk => State.reg_setReg_ne (nestStored s) sp k _ hk, rfl, rfl, by constructor <;> rfl⟩

end Sys2Proof.Machine
